-- ==== Sys2Proof/Word.lean ====
section
/-! DEFINITION. The words of the Talvis 4620: what the manual treats as bits.
Counts, indexes, levels and times that have a range of their own are natural numbers. -/

namespace Sys2Proof

/-- One byte of a lane frame or a link frame. -/
abbrev Byte := BitVec 8

/-- A 16-bit word: a sequence, a tag, a CRC, a check code, a saturating count of a record. -/
abbrev Word16 := BitVec 16

/-- A 32-bit word: a bin ID, a tick, an epoch number, a counter. -/
abbrev Word32 := BitVec 32

end Sys2Proof
end

