-- ==== Sys2Proof/Config.lean ====
section
/-! DEFINITION. What is fixed for the part: the capacities of 00_scope section 3.3, and the values that the
manual leaves open (`opaque`: no proof can see what they are). An open choice is a function
of the tick counter and of what is at hand, so that it need not be the same twice. -/

namespace Sys2Proof.Config

/-- Places of the Intake Queue (R5). -/
def intakeCapacity : Nat := 256

/-- Entries of the Duplicate Window (R17). -/
def windowCapacity : Nat := 128

/-- Slots of the Bin Table (R22). -/
def slotCount : Nat := 8192

/-- Slots of a probe window (R26). -/
def probeWindow : Nat := 24

/-- The multiplier of the home slot (R25). -/
def hashMultiplier : Nat := 2654435761

/-- Entry slots of the Entry Pool (R103). -/
def poolSize : Nat := 4096

/-- Places of the Downlink Request Queue (R177). -/
def downlinkCapacity : Nat := 8

/-- Places of the Uplink Queue (R180). -/
def uplinkCapacity : Nat := 64

/-- Free places a relay needs to enter the Uplink Queue (R180). -/
def relayNeeds : Nat := 9

/-- The greatest body of a link frame (R175). -/
def bodyLimit : Nat := 600

/-- The distance that means no echo (R15, R50). -/
def noEcho : Nat := 4095

/-- The check code of a record, given its bytes. Free: R24 says the code is of 16 bits and covers the whole
record, and does not say how it is computed; no request returns it (notes/assumptions/5.md). -/
opaque checkCode : List Byte → Word16

/-- Whether a frame whose slot became DAMAGED between its two claims, by another block's claim, is refused with
NO_BIN (true) or ends as after a storage error (false). Free: R39 speaks of a dropped slot and of a failed
verification only (notes/assumptions/12.md). -/
opaque damagedFrameIsNoBin (tick : Word32) (slot : Nat) : Bool

/-- Whether a link receiver that RESTART finds discarding goes on discarding (true) or waits for a frame (false). Free:
the table under R189 says it is kept, R175 that after RESTART it waits (notes/assumptions/24.md). -/
opaque restartKeepsDiscarding (tick : Word32) : Bool

/-- Whether step 6 of RESTART leaves the lane counters as step 5 and the lanes have made them since (true) or zeroes
them again (false). Free: R189 has a lane frame that ends after step 5 counted from 0, R188 has the counters of R186
become 0 in step 6 (notes/assumptions/8.md). -/
opaque restartKeepsLaneCounts (tick : Word32) : Bool

/-- The detail byte of a HELD notice built while the HELD status is clear and holds no cause. Free
(notes/assumptions/15.md). -/
opaque clearedHeldDetail (tick taken : Word32) : Byte

end Sys2Proof.Config
end

