-- ==== Sys2Proof/Syntax.lean ====
section
/-! DEFINITION. The commands of the part: one constructor for each row of spec/opcode_table.json.
The request rows carry no operands of their own: they work on the request that REQUEST_TAKE took, whose operand
bytes the part holds (notes/assumptions/1.md). -/

namespace Sys2Proof

/-- What makes a downlink frame bad before its last CRC byte (R175). -/
inductive BadCause where
  /-- the type byte, which is not 01h -/
  | typeByte (b : Byte)
  /-- the body length, which is above 600 -/
  | bodyLength (n : Nat)
  /-- a byte arrived with a missing stop bit -/
  | missingStop
  deriving DecidableEq, Repr

/-- An event that the clocks owe the Sheet Builder, taken between the two operations which one claim requests of it
(R107). -/
inductive SheetEvent where
  /-- the clock's cut-off event of a round (R122) -/
  | cutoff (round : Nat)
  /-- the expiry of a port's draw timer (R152) -/
  | expiry (port : Nat)
  deriving DecidableEq, Repr

/-- The items of a STATUS response, in the order of their table (R185). -/
inductive StatusItem where
  | intakeState
  | stoppedIndication
  | intakeQueue
  | sweep
  | epoch
  | entryPool
  | downlinkQueue
  | uplinkQueue
  | deviceStatuses
  | conditionStatuses
  deriving DecidableEq, Repr

/-- What is taken between the two operations which one apply claim requests of the Sheet Builder, the Serve of step 9
and the request of step 15: another operation of the Sheet Builder (R107), or the reading of items of a STATUS between
them (R185). -/
inductive Between where
  /-- an event that the clocks owe -/
  | event (e : SheetEvent)
  /-- the request handler takes the next request, for the Sheet Builder to work here (R178) -/
  | requestTake
  /-- the request in hand, if it is one that the Sheet Builder works without a claim on the Bin Table -/
  | sheetRequest
  /-- items of the STATUS in hand are read -/
  | statusRead (items : List StatusItem)
  deriving DecidableEq, Repr

/-- A command: one whole, indivisible step of the part. -/
inductive Instr where
  /-- LANE_FRAME_END (R1, R2): chip-select of the lane is released; the complete bytes of the assertion. -/
  | laneFrameEnd (lane : Nat) (bytes : List Byte)
  /-- FRAME_TAKE (R6): the head frame is taken and checked. -/
  | frameTake
  /-- APPLY_CLAIM (R47): the accepted frame is applied. What the Sheet Builder takes between the Serve of step 9 and
  the request of step 15, in its order (R107); nothing, as a rule. -/
  | applyClaim (between : List Between)
  /-- TICK (R85). The slots whose storage failed in the second that ends, each with the change of its check
  code against its contents (R24); none, as a rule. -/
  | tick (failed : List (Nat × Word16))
  /-- EPOCH_END (R86): the Epoch Counter takes the epoch end that a tick made. -/
  | epochEnd
  /-- SWEEP_TRIGGER (R90): the Sweep Engine takes a trigger of the postscaler. -/
  | sweepTrigger
  /-- MINUTE_CHANGE (R93): the compare of a minute change that a tick made. -/
  | minuteChange
  /-- CUTOFF_EVENT (R122): the Sheet Builder takes the clock's cut-off event of a round. -/
  | cutoffEvent (round : Nat)
  /-- DRAW_TIMER_EXPIRY (R152): the Sheet Builder takes the expiry of a port's draw timer. -/
  | drawTimerExpiry (port : Nat)
  /-- SWEEP_VISIT (R161): the sweep visits the slot under its cursor. -/
  | sweepVisit
  /-- LINK_FRAME_RECEIVED (R175): a frame of type 01h is at its last CRC byte: its body and its CRC, no CRC when
  that last byte arrived with a missing stop bit. -/
  | linkFrameReceived (body : List Byte) (crc : Option Word16)
  /-- LINK_IDLE_TIMEOUT (R175): the line was idle for 10 character times; whether a frame was incomplete. -/
  | linkIdleTimeout (incomplete : Bool)
  /-- REQUEST_TAKE (R178). -/
  | requestTake
  /-- UNKNOWN_REQUEST (R179). -/
  | unknownRequest
  /-- UPLINK_FRAME_SENT (R176). -/
  | uplinkFrameSent
  /-- NOTICE_BUILD (R182). -/
  | noticeBuild
  /-- HOLD, code 10h (R8). -/
  | hold
  /-- RESUME, code 11h (R9). -/
  | resume
  /-- STEP, code 12h (R10). -/
  | step
  /-- WINDOW READ, code 13h (R18). -/
  | windowRead
  /-- BIN PUT, code 20h (R32). The events that the Sheet Builder takes between the Withdraw and the Place of a bin's
  move to another round, in its order (R33, R107); nothing, as a rule. -/
  | binPut (between : List SheetEvent := [])
  /-- BIN GET, code 21h (R36). -/
  | binGet
  /-- BIN DROP, code 22h (R37). -/
  | binDrop
  /-- TABLE READ, code 23h (R31). -/
  | tableRead
  /-- PROFILE PUT, code 30h (R43). -/
  | profilePut
  /-- PROFILE GET, code 31h (R45). -/
  | profileGet
  /-- BIND, code 40h (R141). -/
  | bind
  /-- UNBIND, code 41h (R149). -/
  | unbind
  /-- DRAW, code 42h (R143). -/
  | draw
  /-- REWIND, code 43h (R147). -/
  | rewind
  /-- RELEASE, code 44h (R148). -/
  | release
  /-- PORT GET, code 45h (R156). -/
  | portGet
  /-- CLOCK SET, code 50h (R95). -/
  | clockSet
  /-- TIME GET, code 51h (R97). -/
  | timeGet
  /-- RULE PUT, code 60h (R79). -/
  | rulePut
  /-- RULE GET, code 61h (R80). -/
  | ruleGet
  /-- MASK PUT, code 62h (R81). -/
  | maskPut
  /-- CONDITION READ, code 63h (R82). -/
  | conditionRead
  /-- ROUND PUT, code 70h (R116). -/
  | roundPut
  /-- ROUND GET, code 71h (R118). -/
  | roundGet
  /-- CUTOFF NOW, code 72h (R128). -/
  | cutoffNow
  /-- SWEEP, code 80h (R169). -/
  | sweep
  /-- SWEEP ABORT, code 81h (R170). -/
  | sweepAbort
  /-- SWEEP REPORT, code 82h (R171). -/
  | sweepReport
  /-- STATUS, code 90h (R185): which of its items are read in this command; all of them, as a rule. -/
  | status (items : List StatusItem := [.intakeState, .stoppedIndication, .intakeQueue, .sweep, .epoch, .entryPool,
      .downlinkQueue, .uplinkQueue, .deviceStatuses, .conditionStatuses])
  /-- COUNTERS, code 91h (R186). -/
  | counters
  /-- SETTING PUT of LANE_ENABLE, code 92h, item 01h (R3). -/
  | laneEnable
  /-- SETTING PUT of DEDUP_HOLD, code 92h, item 02h (R16). -/
  | dedupHold
  /-- SETTING PUT of EPOCH_PERIOD, code 92h, item 03h (R88). -/
  | epochPeriod
  /-- SETTING PUT of SWEEP_INTERVAL, code 92h, item 04h (R91). -/
  | sweepInterval
  /-- SETTING PUT of DRAW_IDLE_LIMIT, code 92h, item 05h (R153). -/
  | drawIdleLimit
  /-- SETTING GET, code 93h (R187). -/
  | settingGet
  /-- NOTICE ENABLE, code 94h (R183). -/
  | noticeEnable
  /-- NOTICE CLEAR, code 95h (R184). -/
  | noticeClear
  /-- RESTART, code 9Fh (R188): how many of the seven steps of its work are made in this command. -/
  | restart (steps : Nat)
  /-- RST_ASSERT (R191): RST# goes low. -/
  | rstAssert
  /-- RST_RELEASE (R191, R192): RST# goes high: the PL_RATE strap's level, and the lanes whose chip-select is
  then asserted. -/
  | rstRelease (rateHigh : Bool) (asserted : List Nat)
  /-- BAD_FRAME_BEFORE_CRC (R175): a downlink frame is found bad before its last CRC byte. -/
  | badFrameBeforeCrc (cause : BadCause)
  /-- SETTING PUT of an item that is none of the five (R187). -/
  | settingPutUnknownItem
  deriving DecidableEq, Repr

end Sys2Proof
end

