-- ==== Sys2Proof/Decode.lean ====
section
/-! DEFINITION. The command that a word spells by the table's bits. The opcode table gives none of its rows a
word's bits (every row's "fields" is empty and none has "fixed"), so no word spells a command
(notes/assumptions/18.md). -/

namespace Sys2Proof

/-- No row of the table gives bits. -/
def decodeTableWord (_nbits _w : Nat) : Option Instr := none

end Sys2Proof
end

