-- ==== Sys2Proof/Machine/State.lean ====
section
/-! DEFINITION. The state of the part: every register, queue, table, timer and status that spec/ names, as plain
data, block by block; the faults and refusals; and the part right after reset. -/

namespace Sys2Proof.Machine

/-! ## Lanes and intake (chapter 1) -/

/-- A radio lane: its enable, its three counters (R4), and whether its chip-select was already asserted when RST#
was released, so that the assertion in progress makes no frame (R192). -/
structure Lane where
  enabled : Bool
  received : Word32
  dropped : Word32
  lost : Word32
  blind : Bool
  deriving DecidableEq, Repr

/-- A lane frame as every later block sees it (R1). -/
structure LaneFrame where
  lane : Fin 4
  strength : Byte
  bytes : List Byte
  overlong : Bool
  deriving DecidableEq, Repr

/-- What a container is (R23). -/
inductive BinKind where
  | litter
  | glass
  deriving DecidableEq, Repr

/-- The decoded fields of a sensor frame (R14). -/
structure SensorFrame where
  binId : Word32
  seq : Word16
  kind : BinKind
  lift : Bool
  heat : Bool
  tamper : Bool
  lowBattery : Bool
  distance : Nat
  battery : Nat
  deriving DecidableEq, Repr

/-- The condition kinds 0–17 (R62). Kind 18, STORE_ERROR, has no row, no mask setting, no deferral and no
condition status (R66, R75); it is kept apart. -/
inductive Kind where
  | crcBad
  | formBad
  | duplicate
  | noBin
  | kindClash
  | staleSeq
  | blankedRead
  | stepJump
  | seqGap
  | heat
  | tamper
  | lowBattery
  | overfill
  | placeFail
  | silence
  | cutoffHeld
  | drawTimeout
  | intakeOverrun
  deriving DecidableEq, Repr

/-- Why intake is held (section 1.3). -/
inductive Cause where
  | start
  | restart
  | request
  | step
  | kind (k : Kind)
  deriving DecidableEq, Repr

/-- The intake state; HELD always carries its cause (section 1.3). -/
inductive IntakeState where
  | run
  | held (cause : Cause)
  | stopped
  deriving DecidableEq, Repr

/-- The frame in flight between its two claims (R6, R21): what FRAME_TAKE captured and decoded, the slot that
lookup found, the SEQ_GAP note, and whether a BIN DROP has removed the found record since (R39). -/
structure InFlight where
  frame : LaneFrame
  sensor : SensorFrame
  arrivalTick : Word32
  arrivalEpoch : Word32
  slot : Nat
  gap : Bool
  dropped : Bool
  deriving DecidableEq, Repr

/-- An entry of the Duplicate Window (section 1.5). -/
structure WindowEntry where
  binId : Word32
  seq : Word16
  arrivalTick : Word32
  copies : Byte
  deriving DecidableEq, Repr

/-- The Intake Unit. The frame in flight is the head of the queue (R6). -/
structure Intake where
  state : IntakeState
  queue : List LaneFrame
  accepted : Word32
  taken : Word32
  inFlight : Option InFlight
  holdWaiting : Option Kind
  window : List WindowEntry
  dedupHold : Nat
  deriving DecidableEq, Repr

/-! ## The Bin Table (chapter 2) -/

/-- A bin's state (section 3.5). -/
inductive BinState where
  | unseen
  | normal
  | due
  | urgent
  | blanked
  deriving DecidableEq, Repr

/-- A bin's relation to the sheets (R23). -/
inductive Placement where
  | none
  | placed
  | unplaced
  deriving DecidableEq, Repr

/-- A bin record (R23). An absent field is `none`. -/
structure BinRecord where
  binId : Word32
  kind : BinKind
  round : Option (Fin 64)
  profile : Fin 16
  state : BinState
  fill : Option Nat
  lastSeq : Option Word16
  heardEpoch : Word32
  blankUntil : Option Word32
  crossing : Option Word32
  silent : Bool
  heat : Bool
  tamper : Bool
  lowBattery : Bool
  placement : Placement
  lastLane : Option (Fin 4)
  lastSignal : Option Byte
  battery : Option Nat
  applied : Word16
  refused : Word16
  deriving DecidableEq, Repr

/-- A slot (R22). A LIVE slot holds its record and its check code, the code held as its difference from the code
of the stored contents: 0 exactly while the two agree (R24, notes/assumptions/5.md). -/
inductive Slot where
  | empty
  | live (rec : BinRecord) (codeDiff : Word16)
  | tombstone
  | damaged
  deriving DecidableEq, Repr

/-- The Bin Table: the slots that are not EMPTY, by rising index. -/
abbrev BinTable := List (Nat × Slot)

/-! ## Profiles (chapter 3) -/

/-- A profile (R42). -/
structure Profile where
  emptyDepth : Nat
  fullDepth : Nat
  raise : Nat
  clear : Nat
  overflow : Nat
  maxStep : Nat
  blankEpochs : Nat
  silenceLimit : Nat
  checkOnSilence : Bool
  eventsUrgent : Bool
  deriving DecidableEq, Repr

/-! ## The Condition Unit (chapter 4) -/

/-- The actions a row may name (R66). -/
inductive Action where
  | record
  | note
  | relay
  | hold
  | defer
  deriving DecidableEq, Repr

/-- A row of the Disposition Table (R66). -/
structure Row where
  armed : Action
  unarmed : Action
  deriving DecidableEq, Repr

/-- What a condition concerns (R62). -/
inductive Subject where
  | lane (n : Fin 4)
  | bin (id : Word32)
  | round (r : Fin 64)
  | portRound (p : Fin 4) (r : Fin 64)
  deriving DecidableEq, Repr

/-- The occurrences of a kind put aside (R72). -/
structure Deferred where
  count : Word32
  subject : Option Subject
  deriving DecidableEq, Repr

/-- The Condition Unit; the vectors are indexed by kind number. -/
structure CondUnit where
  rows : Vector Row 18
  mask : Vector Bool 18
  counts : Vector Word32 18
  storeErrors : Word32
  deferred : Vector Deferred 18
  latestSlot : Option Nat
  deriving DecidableEq, Repr

/-! ## The Time Base (chapter 5) -/

/-- The Time Base, with the events it has handed over and that their owners have not yet taken (R85): the epoch
end of the last tick, triggers, minute changes (minute and day) and cut-off events (rounds). -/
structure TimeBase where
  tick : Word32
  epoch : Word32
  elapsed : Nat
  period : Nat
  interval : Nat
  postCount : Nat
  second : Nat
  minute : Nat
  day : Nat
  epochEndOwed : Bool
  triggersOwed : Nat
  minuteChangesOwed : List (Nat × Nat)
  cutoffsOwed : List (Fin 64)
  deriving DecidableEq, Repr

/-! ## Rounds, sheets and the pool (chapters 6 and 7) -/

/-- The class of an entry, in falling order (R104). -/
inductive EntryClass where
  | urgent
  | due
  | check
  deriving DecidableEq, Repr

/-- The mark of an entry (R101). -/
inductive Mark where
  | none
  | served
  | withdrawn
  deriving DecidableEq, Repr

/-- An entry (R102). -/
structure Entry where
  binId : Word32
  slot : Nat
  cls : EntryClass
  mark : Mark
  carried : Bool
  fillAt : Option Nat
  placedEpoch : Word32
  crossing : Option Word32
  deriving DecidableEq, Repr

/-- A side's letter (R99). -/
inductive Side where
  | a
  | b
  deriving DecidableEq, Repr

/-- The states of the side that is not the FILL side (R100). -/
inductive OtherState where
  | free
  | sealed
  | opened
  | spent
  deriving DecidableEq, Repr

/-- A round's record and its two sides (R99, R100): which side is FILL and its entries, the other side's state and
its entries. -/
structure Round where
  enabled : Bool
  cutoffMinute : Nat
  postscaler : Nat
  phase : Nat
  cap : Nat
  sealEmpty : Bool
  fillSide : Side
  fill : List Entry
  otherState : OtherState
  other : List Entry
  held : Bool
  missed : Word16
  lastCutoff : Option Word32
  bound : Option (Fin 4)
  displaced : Word16
  deriving DecidableEq, Repr

/-! ## Draw ports (chapter 8) -/

/-- A port's state with its bound round (R139). -/
inductive PortState where
  | unbound
  | waiting (r : Fin 64)
  | reading (r : Fin 64)
  | exhausted (r : Fin 64)
  deriving DecidableEq, Repr

/-- A draw port (R139), with the expiry that a tick's compare found and the Sheet Builder has not yet taken
(R151, R154). -/
structure Port where
  state : PortState
  cursor : Nat
  idle : Nat
  expiryOwed : Bool
  deriving DecidableEq, Repr

/-! ## The Sweep Engine (chapter 9) -/

/-- How a sweep ended (R171). -/
inductive EndReason where
  | done
  | aborted
  | stopped
  deriving DecidableEq, Repr

/-- The Sweep Engine and its report (R159, R171). -/
structure Sweep where
  running : Bool
  cursor : Nat
  startEpoch : Option Word32
  endReason : Option EndReason
  visited : Word32
  silenced : Word32
  placed : Word32
  reclaimed : Word32
  overlaps : Word32
  deriving DecidableEq, Repr

/-! ## The planner link (chapter 10) -/

/-- The link receiver: waiting for a frame, or discarding until the line is idle (R175). -/
inductive RxState where
  | waiting
  | discarding
  deriving DecidableEq, Repr

/-- A request body: code, tag, operand bytes (R179). -/
structure Request where
  code : Byte
  tag : Word16
  operands : List Byte
  deriving DecidableEq, Repr

/-- The items of a STATUS that have been read, at their places in the response (R185); an item not yet read holds
nothing. -/
abbrev StatusRead := Vector (Option (List Byte)) 10

/-- The request handler (R178): idle, or with a request taken and not yet answered: handed to its owner, a HOLD or
a STEP waiting for the frame in flight to end (R8, R10), a RESTART with the steps of R188 done and the slots
lost so far (R41), or a STATUS with the items read so far (R185). A place of the Uplink Queue is reserved exactly while
it is not idle. -/
inductive Handler where
  | idle
  | taken (r : Request)
  | holdWaiting (tag : Word16)
  | stepWaiting (tag : Word16)
  | restarting (tag : Word16) (done : Nat) (lost : Nat)
  | readingStatus (tag : Word16) (got : StatusRead)
  deriving DecidableEq, Repr

/-- The three kinds of uplink frame (R180). -/
inductive FrameKind where
  | response
  | notice
  | relay
  deriving DecidableEq, Repr

/-- A frame of the Uplink Queue. -/
structure UplinkFrame where
  kind : FrameKind
  body : List Byte
  deriving DecidableEq, Repr

/-- The planner link. -/
structure Link where
  rx : RxState
  downlink : List Request
  handler : Handler
  uplink : List UplinkFrame
  badFrames : Word32
  droppedRequests : Word32
  relayLost : Word32
  relaysSent : Word32
  deriving DecidableEq, Repr

/-! ## The Notice Unit (chapter 10) -/

/-- A status with its enable (R181). -/
structure Flag where
  set : Bool
  enabled : Bool
  deriving DecidableEq, Repr

/-- The three statuses of a round (R181). -/
structure RoundFlags where
  ready : Flag
  emptied : Flag
  late : Flag
  deriving DecidableEq, Repr

/-- A condition status (R69); it is always enabled. -/
structure CondStatus where
  set : Bool
  subject : Option Subject
  since : Word32
  deriving DecidableEq, Repr

/-- Names the three statuses of a round. -/
inductive RoundStatus where
  | ready
  | emptied
  | late
  deriving DecidableEq, Repr

/-- Names a status of the Notice Unit (R181). -/
inductive StatusId where
  | round (r : Fin 64) (w : RoundStatus)
  | cond (k : Kind)
  | held
  | sweepDone
  | stopped
  deriving DecidableEq, Repr

/-- The Notice Unit (R181, R182). -/
structure Notices where
  rounds : Vector RoundFlags 64
  conds : Vector CondStatus 18
  held : Flag
  heldCause : Option Cause
  sweepDone : Flag
  stopped : Flag
  stoppedSlot : Option Nat
  list : List StatusId
  deriving DecidableEq, Repr

/-- What last left PL_TXD: nothing yet, a whole frame (R176), or a frame cut off by RST# (R191). -/
inductive TxOut where
  | nothing
  | whole (f : UplinkFrame)
  | cutOff (f : UplinkFrame)
  deriving DecidableEq, Repr

/-! ## The part -/

/-- The part, block by block, and the queue of the commands that wait. -/
structure State where
  pending : List Instr
  rstLow : Bool
  rateHigh : Bool
  txOut : TxOut
  lanes : Vector Lane 4
  intake : Intake
  table : BinTable
  profiles : Vector Profile 16
  cond : CondUnit
  time : TimeBase
  rounds : Vector Round 64
  free : Nat
  emptyCutoffs : Word32
  ports : Vector Port 4
  drawTimeout : Nat
  sweep : Sweep
  link : Link
  notices : Notices
  deriving DecidableEq, Repr

/-- Why a step stops: the command names a thing the part does not have. -/
inductive Fault where
  /-- LANE_FRAME_END of a lane above 3: the part has four lanes (R1). Safe. -/
  | noSuchLane
  /-- CUTOFF_EVENT of a round above 63: the part has 64 rounds (R99). Safe. -/
  | noSuchRound
  /-- DRAW_TIMER_EXPIRY of a port above 3: the part has four ports (R139). Safe. -/
  | noSuchPort
  deriving DecidableEq, Repr

/-- Why a command has no meaning. -/
inductive Refusal where
  /-- The command's row is not modelled yet: raised by a dispatch arm only. Safe. -/
  | notModelled (mnemonic : String)
  deriving DecidableEq, Repr

/-- The answer of a command. -/
abbrev Result := Host.Outcome State Fault Refusal

/-! ## Reset values -/

/-- A lane after power-on (R13). -/
def Lane.powerOn : Lane := ⟨true, 0, 0, 0, false⟩

/-- The Intake Unit after power-on (R13). -/
def Intake.powerOn : Intake := ⟨.held .start, [], 0, 0, none, none, [], 8⟩

/-- A profile after power-on (R46). -/
def Profile.powerOn : Profile := ⟨120, 15, 80, 60, 98, 100, 2, 288, false, true⟩

/-- The Disposition Table after power-on, by kind number (R66). -/
def Row.powerOn : Vector Row 18 := #v[
  ⟨.record, .record⟩, ⟨.record, .record⟩, ⟨.record, .record⟩, ⟨.relay, .record⟩, ⟨.note, .record⟩,
  ⟨.record, .record⟩, ⟨.record, .record⟩, ⟨.note, .record⟩, ⟨.record, .record⟩, ⟨.note, .record⟩,
  ⟨.note, .record⟩, ⟨.note, .record⟩, ⟨.note, .record⟩, ⟨.note, .record⟩, ⟨.note, .record⟩,
  ⟨.note, .record⟩, ⟨.note, .record⟩, ⟨.note, .record⟩]

/-- The Condition Unit after power-on (R83). -/
def CondUnit.powerOn : CondUnit :=
  ⟨Row.powerOn, Vector.replicate 18 true, Vector.replicate 18 0, 0, Vector.replicate 18 ⟨0, none⟩, none⟩

/-- The Time Base after power-on (R98). -/
def TimeBase.powerOn : TimeBase := ⟨0, 0, 0, 300, 1, 0, 0, 0, 0, false, 0, [], []⟩

/-- A round after power-on (R120). -/
def Round.powerOn : Round := ⟨false, 0, 1, 0, 64, false, .a, [], .free, [], false, 0, none, none, 0⟩

/-- A port after power-on (R158). -/
def Port.powerOn : Port := ⟨.unbound, 0, 0, false⟩

/-- The Sweep Engine after power-on (R174). -/
def Sweep.powerOn : Sweep := ⟨false, 8191, none, none, 0, 0, 0, 0, 0⟩

/-- The planner link after power-on (R189). -/
def Link.powerOn : Link := ⟨.waiting, [], .idle, [], 0, 0, 0, 0⟩

/-- A status after power-on: clear, its enable off (R181). -/
def Flag.powerOn : Flag := ⟨false, false⟩

/-- The Notice Unit after power-on (R181, R182). -/
def Notices.powerOn : Notices :=
  ⟨Vector.replicate 64 ⟨.powerOn, .powerOn, .powerOn⟩, Vector.replicate 18 ⟨false, none, 0⟩,
    .powerOn, none, .powerOn, .powerOn, none, []⟩

/-- The part right after the release of RST# (R191): every block at its power-on values. The strap is taken as low
until a RST_RELEASE samples it (DESIGN CHOICE, notes/assumptions/9.md). -/
def State.reset : State where
  pending := []
  rstLow := false
  rateHigh := false
  txOut := .nothing
  lanes := Vector.replicate 4 .powerOn
  intake := .powerOn
  table := []
  profiles := Vector.replicate 16 .powerOn
  cond := .powerOn
  time := .powerOn
  rounds := Vector.replicate 64 .powerOn
  free := Config.poolSize
  emptyCutoffs := 0
  ports := Vector.replicate 4 .powerOn
  drawTimeout := 600
  sweep := .powerOn
  link := .powerOn
  notices := .powerOn

end Sys2Proof.Machine
end

