-- ==== Sys2Proof/Machine/Ops.lean ====
section
/-! DEFINITION. The operations that every block shares: one named update for each field of the state, total access
to the fixed tables, byte order and the CRC, counters that wrap or saturate, the slots of the Bin Table with lookup
and insertion scan, the envelope of a command and of a response. -/

namespace Sys2Proof.Machine

/-! ## Named updates of the state -/

/-- `s` with its `pending` replaced. -/
def State.setPending (s : State) (x : List Instr) : State := { s with pending := x }

/-- `s` with its `rstLow` replaced. -/
def State.setRstLow (s : State) (x : Bool) : State := { s with rstLow := x }

/-- `s` with its `rateHigh` replaced. -/
def State.setRateHigh (s : State) (x : Bool) : State := { s with rateHigh := x }

/-- `s` with its `txOut` replaced. -/
def State.setTxOut (s : State) (x : TxOut) : State := { s with txOut := x }

/-- `s` with its `lanes` replaced. -/
def State.setLanes (s : State) (x : Vector Lane 4) : State := { s with lanes := x }

/-- `s` with its `intake` replaced. -/
def State.setIntake (s : State) (x : Intake) : State := { s with intake := x }

/-- `s` with its `table` replaced. -/
def State.setTable (s : State) (x : BinTable) : State := { s with table := x }

/-- `s` with its `profiles` replaced. -/
def State.setProfiles (s : State) (x : Vector Profile 16) : State := { s with profiles := x }

/-- `s` with its `cond` replaced. -/
def State.setCond (s : State) (x : CondUnit) : State := { s with cond := x }

/-- `s` with its `time` replaced. -/
def State.setTime (s : State) (x : TimeBase) : State := { s with time := x }

/-- `s` with its `rounds` replaced. -/
def State.setRounds (s : State) (x : Vector Round 64) : State := { s with rounds := x }

/-- `s` with its `free` replaced. -/
def State.setFree (s : State) (x : Nat) : State := { s with free := x }

/-- `s` with its `emptyCutoffs` replaced. -/
def State.setEmptyCutoffs (s : State) (x : Word32) : State := { s with emptyCutoffs := x }

/-- `s` with its `ports` replaced. -/
def State.setPorts (s : State) (x : Vector Port 4) : State := { s with ports := x }

/-- `s` with its `drawTimeout` replaced. -/
def State.setDrawTimeout (s : State) (x : Nat) : State := { s with drawTimeout := x }

/-- `s` with its `sweep` replaced. -/
def State.setSweep (s : State) (x : Sweep) : State := { s with sweep := x }

/-- `s` with its `link` replaced. -/
def State.setLink (s : State) (x : Link) : State := { s with link := x }

/-- `s` with its `notices` replaced. -/
def State.setNotices (s : State) (x : Notices) : State := { s with notices := x }

/-! ## Tables of a fixed number of like things -/

/-- The thing at index `i`. -/
def Vec.get {α : Type} {n : Nat} (v : Vector α n) (i : Fin n) : α := v[i.val]

/-- `v` with the thing at index `i` replaced. -/
def Vec.put {α : Type} {n : Nat} (v : Vector α n) (i : Fin n) (x : α) : Vector α n := v.set i.val x

/-- Every thing of `v` replaced by its image under `f`. -/
def Vec.map {α : Type} {n : Nat} (f : α → α) (v : Vector α n) : Vector α n :=
  ⟨⟨v.toList.map f⟩, by simp⟩

/-- The round of `s` at index `r`. -/
def State.round (s : State) (r : Fin 64) : Round := Vec.get s.rounds r

/-- `s` with round `r` replaced. -/
def State.setRound (s : State) (r : Fin 64) (x : Round) : State := s.setRounds (Vec.put s.rounds r x)

/-- The port of `s` at index `p`. -/
def State.port (s : State) (p : Fin 4) : Port := Vec.get s.ports p

/-- `s` with port `p` replaced. -/
def State.setPort (s : State) (p : Fin 4) (x : Port) : State := s.setPorts (Vec.put s.ports p x)

/-- The lane of `s` at index `n`. -/
def State.lane (s : State) (n : Fin 4) : Lane := Vec.get s.lanes n

/-- `s` with lane `n` replaced. -/
def State.setLane (s : State) (n : Fin 4) (x : Lane) : State := s.setLanes (Vec.put s.lanes n x)

/-! ## Bytes, most significant first (section 10.8), and the CRC -/

/-- The low byte of a number. -/
def byte (n : Nat) : Byte := BitVec.ofNat 8 n

/-- Two bytes of a number, most significant first. -/
def be16 (n : Nat) : List Byte := [byte (n / 256), byte n]

/-- Four bytes of a number, most significant first. -/
def be32 (n : Nat) : List Byte := [byte (n / 16777216), byte (n / 65536), byte (n / 256), byte n]

/-- The number of two bytes, most significant first. -/
def num16 (h l : Byte) : Nat := 256 * h.toNat + l.toNat

/-- The word of four bytes, most significant first. -/
def word32 (a b c d : Byte) : Word32 :=
  BitVec.ofNat 32 (16777216 * a.toNat + 65536 * b.toNat + 256 * c.toNat + d.toNat)

/-- One bit of the CRC: polynomial 1021h, no reflection (R14). -/
def crcBit (c : Word16) : Word16 := if c.msb then (c <<< 1) ^^^ 0x1021#16 else c <<< 1

/-- `n` bits of the CRC. -/
def crcBits : Nat → Word16 → Word16
  | 0, c => c
  | n + 1, c => crcBits n (crcBit c)

/-- One byte of the CRC, most significant bit first. -/
def crcByte (c : Word16) (b : Byte) : Word16 := crcBits 8 (c ^^^ (b.setWidth 16 <<< 8))

/-- The 16-bit CRC of sensor frames and link frames: initial value FFFFh, no final inversion (R14, section 10.1). -/
def crc16 (bytes : List Byte) : Word16 := bytes.foldl crcByte 0xFFFF#16

/-! ## Saturating counts (00_scope, Counters) -/

/-- A 16-bit saturating count advanced by one. -/
def satInc16 (w : Word16) : Word16 := if w = 0xFFFF#16 then w else w + 1

/-- An 8-bit saturating count advanced by one (R17). -/
def satInc8 (b : Byte) : Byte := if b = 0xFF#8 then b else b + 1

/-- A 32-bit saturating count advanced by `n` (R69, R72, R74). -/
def satAdd32 (w n : Word32) : Word32 := if w.toNat + n.toNat < 4294967296 then w + n else 0xFFFFFFFF#32

/-! ## The slots of the Bin Table -/

/-- Whether a slot is EMPTY. -/
def Slot.isEmpty : Slot → Bool
  | .empty => true
  | _ => false

/-- Whether a slot is LIVE. -/
def Slot.isLive : Slot → Bool
  | .live _ _ => true
  | _ => false

/-- Whether a slot is TOMBSTONE. -/
def Slot.isTombstone : Slot → Bool
  | .tombstone => true
  | _ => false

/-- Whether a slot is DAMAGED. -/
def Slot.isDamaged : Slot → Bool
  | .damaged => true
  | _ => false

/-- The slot at index `i`; an index that is not listed is EMPTY (R41). -/
def BinTable.get : BinTable → Nat → Slot
  | [], _ => .empty
  | (k, v) :: t, i => if i = k then v else BinTable.get t i

/-- The table with slot `i` replaced, in the canonical form: indexes rising, no EMPTY slot listed. -/
def BinTable.put : BinTable → Nat → Slot → BinTable
  | [], i, v => if v.isEmpty then [] else [(i, v)]
  | (k, w) :: t, i, v =>
    if i < k then (if v.isEmpty then (k, w) :: t else (i, v) :: (k, w) :: t)
    else if i = k then (if v.isEmpty then t else (i, v) :: t)
    else (k, w) :: BinTable.put t i v

/-- The canonical form of the table: indexes strictly rising and below 8192, no EMPTY slot listed. -/
abbrev BinTable.wf (t : BinTable) : Prop :=
  t.Pairwise (fun p q => p.1 < q.1) ∧ ∀ p ∈ t, p.1 < 8192 ∧ p.2.isEmpty = false

/-- The number of listed slots of a kind. -/
def BinTable.count (t : BinTable) (q : Slot → Bool) : Nat := (t.filter fun p => q p.2).length

/-- The number of EMPTY slots: every slot that is not listed (R22). -/
def BinTable.emptyCount (t : BinTable) : Nat := Config.slotCount - t.length

/-- The home slot of a bin ID (R25). -/
def home (b : Word32) : Nat := Config.hashMultiplier * b.toNat % 4294967296 / 524288

/-- The slot at probe distance `d` from a home slot, 8191 followed by 0 (R26). -/
def probeSlot (h d : Nat) : Nat := (h + d) % Config.slotCount

/-- The probe distance of a slot from a bin's home slot (R26). -/
def probeDistance (b : Word32) (slot : Nat) : Nat := (slot + Config.slotCount - home b) % Config.slotCount

/-- How a lookup ends (R27). -/
inductive Lookup where
  | found (slot : Nat) (rec : BinRecord)
  | notFound
  | error (slot : Nat)
  deriving DecidableEq, Repr

/-- Lookup of bin ID `b` in `n` more slots from probe distance `d` (R27). A LIVE slot is verified before its bin ID
is compared (R24). -/
def lookupFrom (t : BinTable) (b : Word32) : Nat → Nat → Lookup
  | 0, _ => .notFound
  | n + 1, d =>
    match t.get (probeSlot (home b) d) with
    | .empty => .notFound
    | .live r diff =>
      if diff ≠ 0 then .error (probeSlot (home b) d)
      else if r.binId = b then .found (probeSlot (home b) d) r
      else lookupFrom t b n (d + 1)
    | .tombstone => lookupFrom t b n (d + 1)
    | .damaged => lookupFrom t b n (d + 1)

/-- Lookup of a bin ID (R27). -/
def lookup (t : BinTable) (b : Word32) : Lookup := lookupFrom t b Config.probeWindow 0

/-- The insertion scan in `n` more slots from probe distance `d`: the first TOMBSTONE or EMPTY slot (R28). -/
def usableFrom (t : BinTable) (b : Word32) : Nat → Nat → Option Nat
  | 0, _ => none
  | n + 1, d =>
    match t.get (probeSlot (home b) d) with
    | .empty => some (probeSlot (home b) d)
    | .tombstone => some (probeSlot (home b) d)
    | .live _ _ => usableFrom t b n (d + 1)
    | .damaged => usableFrom t b n (d + 1)

/-- The insertion scan (R28). -/
def usableSlot (t : BinTable) (b : Word32) : Option Nat := usableFrom t b Config.probeWindow 0

/-- Slot `i` holds a record written just now, with the check code of its contents (R24). -/
def State.writeRecord (s : State) (i : Nat) (r : BinRecord) : State := s.setTable (s.table.put i (.live r 0))

/-- The storage of the listed slots fails: the check code of a LIVE slot ceases to be that of its contents by the
given difference; a slot that holds no record has no check code (R24). -/
def BinTable.fail (t : BinTable) : List (Nat × Word16) → BinTable
  | [] => t
  | (i, d) :: rest =>
    match t.get i with
    | .live r old => BinTable.fail (t.put i (.live r (old ^^^ d))) rest
    | _ => BinTable.fail t rest

/-! ## Kinds by number (R62) -/

/-- The number of a kind. -/
def Kind.idx : Kind → Fin 18
  | .crcBad => 0
  | .formBad => 1
  | .duplicate => 2
  | .noBin => 3
  | .kindClash => 4
  | .staleSeq => 5
  | .blankedRead => 6
  | .stepJump => 7
  | .seqGap => 8
  | .heat => 9
  | .tamper => 10
  | .lowBattery => 11
  | .overfill => 12
  | .placeFail => 13
  | .silence => 14
  | .cutoffHeld => 15
  | .drawTimeout => 16
  | .intakeOverrun => 17

/-- The kinds in number order. -/
def allKinds : List Kind :=
  [.crcBad, .formBad, .duplicate, .noBin, .kindClash, .staleSeq, .blankedRead, .stepJump, .seqGap, .heat, .tamper,
    .lowBattery, .overfill, .placeFail, .silence, .cutoffHeld, .drawTimeout, .intakeOverrun]

/-- The rounds in number order. -/
def allRounds : List (Fin 64) := List.finRange 64

/-- The ports in number order. -/
def allPorts : List (Fin 4) := List.finRange 4

/-- The lanes in number order. -/
def allLanes : List (Fin 4) := List.finRange 4

/-! ## The envelope of a command -/

/-- An event of the part. While RST# is low the part takes no event (R191). -/
def event (s : State) (f : State → State) : Result := .next (if s.rstLow then s else f s)

/-- A request's work: made when the handler has taken a request of this code (R178); without one the command finds
nothing to do (notes/assumptions/1.md). -/
def onRequest (s : State) (code : Byte) (f : Request → State → State) : Result :=
  event s fun s =>
    match s.link.handler with
    | .taken r => if r.code = code then f r s else s
    | _ => s

/-- The result codes (section 10.2). -/
inductive ResultCode where
  | ok
  | busy
  | range
  | notFound
  | tableFull
  | boundElsewhere
  | notBound
  | notReady
  | stopped
  | badRequest
  deriving DecidableEq, Repr

/-- The byte of a result code (section 10.2). -/
def ResultCode.byte : ResultCode → Byte
  | .ok => 0
  | .busy => 1
  | .range => 2
  | .notFound => 3
  | .tableFull => 4
  | .boundElsewhere => 5
  | .notBound => 6
  | .notReady => 7
  | .stopped => 8
  | .badRequest => 9

/-- The response frame to a request: code, tag, result, data (R179). -/
def responseFrame (code : Byte) (tag : Word16) (res : ResultCode) (data : List Byte) : UplinkFrame :=
  ⟨.response, code :: (be16 tag.toNat ++ res.byte :: data)⟩

/-- The request in hand is answered: the response is built into the reserved place of the Uplink Queue, and the
handler is free for the next request (R178). -/
def answer (s : State) (code : Byte) (tag : Word16) (res : ResultCode) (data : List Byte) : State :=
  s.setLink { s.link with handler := .idle, uplink := s.link.uplink ++ [responseFrame code tag res data] }

/-- A request is answered (R179). -/
def reply (s : State) (r : Request) (res : ResultCode) (data : List Byte) : State := answer s r.code r.tag res data

/-- Whether a place of the Uplink Queue is reserved (R178): from the taking of a request to its answer. -/
def Link.reserved (l : Link) : Bool :=
  match l.handler with
  | .idle => false
  | _ => true

/-- The free places of the Uplink Queue: those that hold no frame and are not reserved (R178). -/
def Link.freePlaces (l : Link) : Nat :=
  Config.uplinkCapacity - (l.uplink.length + if l.reserved then 1 else 0)

/-- Whether a RESTART is being worked (R188). -/
def State.restarting (s : State) : Bool :=
  match s.link.handler with
  | .restarting _ _ _ => true
  | _ => false

/-- Whether the part is STOPPED (R76). -/
def State.isStopped (s : State) : Bool := decide (s.intake.state = .stopped)

/-- The STOP pin (R76): high while the part is STOPPED, low in reset (R191). -/
def State.stopPin (s : State) : Bool := !s.rstLow && s.isStopped

end Sys2Proof.Machine
end

