-- ==== Sys2Proof/Machine/Operands.lean ====
section
/-! DEFINITION. The byte layouts of section 10.8: request codes and operand lengths, the value codes read from
operand bytes, and the value codes and records written into responses and notices (R190). -/

namespace Sys2Proof.Machine

/-! ## Request codes (R179) -/

/-- Every request code of the manual with the length of its operands (section 10.8, Request operands). -/
def requestLengths : List (Byte × Nat) :=
  [(0x10, 0), (0x11, 0), (0x12, 0), (0x13, 1), (0x20, 8), (0x21, 4), (0x22, 4), (0x23, 2), (0x30, 14), (0x31, 1),
    (0x40, 2), (0x41, 1), (0x42, 2), (0x43, 1), (0x44, 1), (0x45, 1), (0x50, 4), (0x51, 0)] ++
  [(0x60, 3), (0x61, 1), (0x62, 3), (0x63, 1), (0x70, 8), (0x71, 1), (0x72, 1), (0x80, 0), (0x81, 0), (0x82, 0),
    (0x90, 0), (0x91, 1), (0x92, 3), (0x93, 1), (0x94, 3), (0x95, 3), (0x9F, 0)]

/-- The length of the operands a request code takes; none for an unknown code (R179). -/
def operandLength (code : Byte) : Option Nat := requestLengths.lookup code

/-! ## Taking a request (R178, R179) -/

/-- The oldest request leaves the queue and a place of the Uplink Queue is reserved (R178). A known code with operands
of another length is answered at once (R179). -/
def takeOldest (s : State) (r : Request) (rest : List Request) : State :=
  let s := s.setLink { s.link with downlink := rest, handler := .taken r }
  match operandLength r.code with
  | some n => if r.operands.length = n then s else reply s r .badRequest []
  | none => s

/-- The handler takes the next request when it is idle, a request waits and a place is free (R178). -/
def takeRequest (s : State) : State :=
  if s.link.handler = .idle ∧ 1 ≤ s.link.freePlaces then
    match s.link.downlink with
    | r :: rest => takeOldest s r rest
    | [] => s
  else s

/-! ## Reading operand bytes -/

/-- A byte as an index below `n`. -/
def index? (n : Nat) (b : Byte) : Option (Fin n) := if h : b.toNat < n then some ⟨b.toNat, h⟩ else none

/-- 01h yes, 00h no. -/
def yesNo? (b : Byte) : Option Bool := if b = 1#8 then some true else if b = 0#8 then some false else none

/-- 00h LITTER, 01h GLASS. -/
def binKind? (b : Byte) : Option BinKind :=
  if b = 0#8 then some .litter else if b = 1#8 then some .glass else none

/-- A round 0–63, or FFh for NONE. -/
def roundOrNone? (b : Byte) : Option (Option (Fin 64)) :=
  if b = 0xFF#8 then some none else (index? 64 b).map some

/-- 00h RECORD to 04h DEFER. -/
def action? (b : Byte) : Option Action :=
  match b.toNat with
  | 0 => some .record
  | 1 => some .note
  | 2 => some .relay
  | 3 => some .hold
  | 4 => some .defer
  | _ => none

/-- A condition kind 0–17. -/
def kind? (b : Byte) : Option Kind := allKinds[b.toNat]?

/-- A status selector of a round: 00h READY, 01h EMPTIED, 02h LATE. -/
def roundStatus? (b : Byte) : Option RoundStatus :=
  match b.toNat with
  | 0 => some .ready
  | 1 => some .emptied
  | 2 => some .late
  | _ => none

/-- A status selector of the device: 00h HELD, 01h SWEEP_DONE, 02h STOPPED. -/
def deviceStatus? (b : Byte) : Option StatusId :=
  match b.toNat with
  | 0 => some .held
  | 1 => some .sweepDone
  | 2 => some .stopped
  | _ => none

/-- Three enable flags in bits 0, 1, 2; bits 7–3 must be zero. -/
def flags3? (b : Byte) : Option (Bool × Bool × Bool) :=
  if b.toNat < 8 then some (b.getLsbD 0, b.getLsbD 1, b.getLsbD 2) else none

/-! ## Writing value codes -/

/-- 01h yes, 00h no. -/
def yesNo (b : Bool) : Byte := if b then 1 else 0

/-- A kind of bin. -/
def BinKind.code : BinKind → Byte
  | .litter => 0
  | .glass => 1

/-- A bin state. -/
def BinState.code : BinState → Byte
  | .unseen => 0
  | .normal => 1
  | .due => 2
  | .urgent => 3
  | .blanked => 4

/-- A placement. -/
def Placement.code : Placement → Byte
  | .none => 0
  | .placed => 1
  | .unplaced => 2

/-- A slot state. -/
def Slot.code : Slot → Byte
  | .empty => 0
  | .live _ _ => 1
  | .tombstone => 2
  | .damaged => 3

/-- An action. -/
def Action.code : Action → Byte
  | .record => 0
  | .note => 1
  | .relay => 2
  | .hold => 3
  | .defer => 4

/-- A held cause (section 10.8, Notice body). -/
def Cause.code : Cause → Byte
  | .start => 0x80
  | .restart => 0x81
  | .request => 0x82
  | .step => 0x83
  | .kind k => byte k.idx.val

/-- An intake state. -/
def IntakeState.code : IntakeState → Byte
  | .run => 0
  | .held _ => 1
  | .stopped => 2

/-- The held cause of intake; FFh when absent. -/
def IntakeState.causeCode : IntakeState → Byte
  | .held c => c.code
  | _ => 0xFF

/-- A side. -/
def Side.code : Side → Byte
  | .a => 0
  | .b => 1

/-- The state of a side that is not FILL (FILL is 00h). -/
def OtherState.code : OtherState → Byte
  | .free => 1
  | .sealed => 2
  | .opened => 3
  | .spent => 4

/-- A port state. -/
def PortState.code : PortState → Byte
  | .unbound => 0
  | .waiting _ => 1
  | .reading _ => 2
  | .exhausted _ => 3

/-- An end reason; 00h when absent. -/
def endReasonCode : Option EndReason → Byte
  | some .done => 1
  | some .aborted => 2
  | some .stopped => 3
  | none => 0

/-- A subject in four bytes (R190). -/
def Subject.bytes : Subject → List Byte
  | .lane n => be32 n.val
  | .bin id => be32 id.toNat
  | .round r => be32 r.val
  | .portRound p r => be32 (256 * p.val + r.val)

/-- A subject; four zero bytes when absent (R190). -/
def subjectBytes : Option Subject → List Byte
  | some x => x.bytes
  | none => be32 0

/-- A slot in two bytes; FFFFh when absent (R190). -/
def slotBytes : Option Nat → List Byte
  | some i => be16 i
  | none => be16 0xFFFF

/-- A fill; FFh when absent (R190). -/
def fillByte : Option Nat → Byte
  | some f => byte f
  | none => 0xFF

/-- An epoch in four bytes; zero when absent (R190). -/
def epochBytes : Option Word32 → List Byte
  | some e => be32 e.toNat
  | none => be32 0

/-- An index; FFh when absent (R190). -/
def indexByte {n : Nat} : Option (Fin n) → Byte
  | some i => byte i.val
  | none => 0xFF

/-- Eight bits in a byte, bit 0 first. -/
def bits (l : List Bool) : Byte := byte (l.foldr (fun b n => (if b then 1 else 0) + 2 * n) 0)

/-- The optional fields of a record by their presence, bit 0 fill to bit 6 battery (R190). -/
def BinRecord.presence (r : BinRecord) : Byte :=
  bits [r.fill.isSome, r.lastSeq.isSome, r.blankUntil.isSome, r.crossing.isSome, r.lastLane.isSome,
    r.lastSignal.isSome, r.battery.isSome]

/-- The record's flags byte: Silent and the three marks. -/
def BinRecord.flagsByte (r : BinRecord) : Byte := bits [r.silent, r.heat, r.tamper, r.lowBattery]

/-- A record in the layout of BIN GET, from its bin ID on; absent fields are 0 (R190). -/
def BinRecord.bytes (r : BinRecord) : List Byte :=
  be32 r.binId.toNat ++ [r.kind.code, indexByte r.round, byte r.profile.val, r.state.code, r.presence,
    byte (r.fill.getD 0)] ++ be16 ((r.lastSeq.map BitVec.toNat).getD 0) ++ be32 r.heardEpoch.toNat ++
  epochBytes r.blankUntil ++ epochBytes r.crossing ++
  [r.flagsByte, r.placement.code, byte ((r.lastLane.map Fin.val).getD 0), r.lastSignal.getD 0,
    byte (r.battery.getD 0)] ++ be16 r.applied.toNat ++ be16 r.refused.toNat

/-- The check code a LIVE slot's storage holds: the code of its contents changed by the difference the state holds
(R24). No request returns it. -/
def storedCode (r : BinRecord) (codeDiff : Word16) : Word16 := Config.checkCode r.bytes ^^^ codeDiff

/-- A slot in the layout of TABLE READ (R31). -/
def Slot.bytes (i : Nat) : Slot → List Byte
  | .live r _ => [1, byte (probeDistance r.binId i)] ++ be32 r.binId.toNat
  | v => [v.code, 0] ++ be32 0

/-- A profile in the layout of PROFILE PUT, its number first. -/
def Profile.bytes (n : Fin 16) (p : Profile) : List Byte :=
  [byte n.val] ++ be16 p.emptyDepth ++ be16 p.fullDepth ++
  [byte p.raise, byte p.clear, byte p.overflow, byte p.maxStep, byte p.blankEpochs] ++ be16 p.silenceLimit ++
  [yesNo p.checkOnSilence, yesNo p.eventsUrgent]

/-- The class code of a sheet entry. -/
def EntryClass.code : EntryClass → Nat
  | .urgent => 0
  | .due => 1
  | .check => 2

/-- The mark code of a sheet entry. -/
def Mark.code : Mark → Nat
  | .none => 0
  | .served => 1
  | .withdrawn => 2

/-- A sheet entry in a DRAW response, with its current fill (section 10.8). -/
def Entry.bytes (e : Entry) (current : Option Nat) : List Byte :=
  be32 e.binId.toNat ++
  [byte (e.cls.code + 4 * e.mark.code + if e.carried then 16 else 0), fillByte e.fillAt, fillByte current, 0] ++
  epochBytes (if e.cls = .check then none else e.crossing) ++ be32 e.placedEpoch.toNat

/-- The three flags of a round, or of the device, in bits 0, 1, 2. -/
def flagBits (a b c : Bool) : Byte := bits [a, b, c]

end Sys2Proof.Machine
end

