-- ==== Sys2Proof/Machine/Flags.lean ====
section
/-! DEFINITION. The statuses of the Notice Unit and the notice list, the disposition of conditions, the holding of
intake, and the end of a frame's processing. -/

namespace Sys2Proof.Machine

/-! ## The notice list (R182) -/

/-- A status joins the end of the notice list, unless it stands there already. -/
def Notices.owe (n : Notices) (i : StatusId) : Notices :=
  if i ∈ n.list then n else { n with list := n.list ++ [i] }

/-- A status leaves the notice list. -/
def Notices.cancel (n : Notices) (i : StatusId) : Notices := { n with list := n.list.filter (· ≠ i) }

/-! ## The statuses (R181) -/

/-- One of a round's three statuses. -/
def RoundFlags.get (f : RoundFlags) : RoundStatus → Flag
  | .ready => f.ready
  | .emptied => f.emptied
  | .late => f.late

/-- A round's statuses with one replaced. -/
def RoundFlags.put (f : RoundFlags) (w : RoundStatus) (x : Flag) : RoundFlags :=
  match w with
  | .ready => { f with ready := x }
  | .emptied => { f with emptied := x }
  | .late => { f with late := x }

/-- A status of a round. -/
def Notices.roundFlag (n : Notices) (r : Fin 64) (w : RoundStatus) : Flag := (Vec.get n.rounds r).get w

/-- A status of a round replaced. -/
def Notices.putRoundFlag (n : Notices) (r : Fin 64) (w : RoundStatus) (x : Flag) : Notices :=
  { n with rounds := Vec.put n.rounds r ((Vec.get n.rounds r).put w x) }

/-- Whether a status is set. -/
def Notices.isSet (n : Notices) : StatusId → Bool
  | .round r w => (n.roundFlag r w).set
  | .cond k => (Vec.get n.conds k.idx).set
  | .held => n.held.set
  | .sweepDone => n.sweepDone.set
  | .stopped => n.stopped.set

/-- Whether a status is enabled; a condition status always is. -/
def Notices.isEnabled (n : Notices) : StatusId → Bool
  | .round r w => (n.roundFlag r w).enabled
  | .cond _ => true
  | .held => n.held.enabled
  | .sweepDone => n.sweepDone.enabled
  | .stopped => n.stopped.enabled

/-- The status becomes set; its data are the owner's affair. -/
def Notices.markSet (n : Notices) : StatusId → Notices
  | .round r w => n.putRoundFlag r w { n.roundFlag r w with set := true }
  | .cond k => { n with conds := Vec.put n.conds k.idx { Vec.get n.conds k.idx with set := true } }
  | .held => { n with held := { n.held with set := true } }
  | .sweepDone => { n with sweepDone := { n.sweepDone with set := true } }
  | .stopped => { n with stopped := { n.stopped with set := true } }

/-- An event sets a status: from clear to set it owes a notice if its enable is on; set already, it stays set and
owes nothing (R181, R182). -/
def Notices.raise (n : Notices) (i : StatusId) : Notices :=
  if n.isSet i then n
  else if n.isEnabled i then (n.markSet i).owe i
  else n.markSet i

/-- The status becomes clear and its data absent, and it leaves the notice list (R184). -/
def Notices.clear (n : Notices) : StatusId → Notices
  | .round r w => (n.putRoundFlag r w { n.roundFlag r w with set := false }).cancel (.round r w)
  | .cond k => { n with conds := Vec.put n.conds k.idx ⟨false, none, 0⟩ }.cancel (.cond k)
  | .held => { n with held := { n.held with set := false }, heldCause := none }.cancel .held
  | .sweepDone => { n with sweepDone := { n.sweepDone with set := false } }.cancel .sweepDone
  | .stopped => { n with stopped := { n.stopped with set := false }, stoppedSlot := none }.cancel .stopped

/-- The enable of a status; a condition status has none (R183). -/
def Notices.putEnable (n : Notices) (on : Bool) : StatusId → Notices
  | .round r w => n.putRoundFlag r w { n.roundFlag r w with enabled := on }
  | .cond _ => n
  | .held => { n with held := { n.held with enabled := on } }
  | .sweepDone => { n with sweepDone := { n.sweepDone with enabled := on } }
  | .stopped => { n with stopped := { n.stopped with enabled := on } }

/-- An enable is written: on from off while the status is set, the status joins the notice list; off from on, it
leaves the list; written unchanged, it owes and cancels nothing (R183). -/
def Notices.enable (n : Notices) (i : StatusId) (on : Bool) : Notices :=
  if n.isEnabled i = on then n
  else if on then (if n.isSet i then (n.putEnable on i).owe i else n.putEnable on i)
  else (n.putEnable on i).cancel i

/-- The device HELD status is set with a held cause (R7, R11). -/
def Notices.raiseHeld (n : Notices) (c : Cause) : Notices := { n.raise .held with heldCause := some c }

/-- The held cause changes while intake stays HELD: a set HELD status follows, a clear one stays clear (R7). -/
def Notices.recauseHeld (n : Notices) (c : Cause) : Notices :=
  if n.held.set then { n with heldCause := some c } else n

/-- Intake leaves HELD for RUN: the HELD status is cleared and its cause absent (R7, R9). A notice still owed stays
owed: RESUME is none of the three ways in which a status leaves the notice list (R182). -/
def Notices.clearHeld (n : Notices) : Notices := { n with held := { n.held with set := false }, heldCause := none }

/-- STOP sets the device STOPPED status; a status still set keeps the slot of the error that set it (R75). -/
def Notices.raiseStopped (n : Notices) (slot : Nat) : Notices :=
  if n.stopped.set then n else { n.raise .stopped with stoppedSlot := some slot }

/-- A condition status is set, or goes on counting: the latest subject is replaced, and `count` occurrences are
carried into the since-count (R69, R74). -/
def Notices.note (n : Notices) (k : Kind) (subject : Option Subject) (count : Word32) : Notices :=
  let c := Vec.get n.conds k.idx
  let since := if c.set then satAdd32 c.since count else count
  { n.raise (.cond k) with conds := Vec.put (n.raise (.cond k)).conds k.idx ⟨true, subject, since⟩ }

/-- A status of a round is set. -/
def State.raiseRound (s : State) (r : Fin 64) (w : RoundStatus) : State := s.setNotices (s.notices.raise (.round r w))

/-! ## Holding intake (R7, R11) -/

/-- Intake is HELD with a cause, and the device HELD status is set with it: intake entering HELD from RUN, or a
HOLD action in HELD (R7, R11). -/
def holdNow (s : State) (c : Cause) : State :=
  (s.setIntake { s.intake with state := .held c }).setNotices (s.notices.raiseHeld c)

/-- A HOLD action waits on the end of the frame in flight; the last one disposed of gives the cause (R11). What intake
is by then decides whether it takes effect: in STOPPED it does not (`settleHold`). -/
def holdAtFrameEnd (s : State) (k : Kind) : State := s.setIntake { s.intake with holdWaiting := some k }

/-- A HOLD action for a condition that has no frame: at once if no frame is in flight, else at that frame's end; in
STOPPED it leaves intake alone (R11). -/
def holdForT (s : State) (k : Kind) : State :=
  if s.isStopped then s
  else if s.intake.inFlight.isSome then holdAtFrameEnd s k
  else holdNow s (.kind k)

/-! ## Disposing of conditions (chapter 4) -/

/-- The applicable action of a kind (R66). -/
def CondUnit.action (c : CondUnit) (k : Kind) : Action :=
  if Vec.get c.mask k.idx then (Vec.get c.rows k.idx).armed else (Vec.get c.rows k.idx).unarmed

/-- The occurrence counter of a kind advances (R67). -/
def countKind (s : State) (k : Kind) : State :=
  s.setCond { s.cond with counts := Vec.put s.cond.counts k.idx (Vec.get s.cond.counts k.idx + 1) }

/-- The kind's condition status takes `count` occurrences (R69, R74). -/
def noteKind (s : State) (k : Kind) (subject : Option Subject) (count : Word32) : State :=
  s.setNotices (s.notices.note k subject count)

/-- DEFER: one more deferred occurrence, and its subject (R72). -/
def deferKind (s : State) (k : Kind) (subject : Subject) : State :=
  s.setCond { s.cond with
    deferred := Vec.put s.cond.deferred k.idx ⟨satAdd32 (Vec.get s.cond.deferred k.idx).count 1, some subject⟩ }

/-- What every disposition of a condition does, with or without a frame: the count, the condition status of NOTE and
HOLD, the deferral of DEFER (R67–R72). -/
def dispose (s : State) (k : Kind) (subject : Subject) : Action → State
  | .record => countKind s k
  | .note => noteKind (countKind s k) k (some subject) 1
  | .relay => countKind s k
  | .hold => noteKind (countKind s k) k (some subject) 1
  | .defer => deferKind (countKind s k) k subject

/-- A group T condition is raised and disposed of at once; RELAY acts as RECORD (R63, R70, R71). -/
def raiseT (s : State) (k : Kind) (subject : Subject) : State :=
  let a := s.cond.action k
  if a = .hold then holdForT (dispose s k subject a) k else dispose s k subject a

/-- One condition of a frame is disposed of; RELAY marks the frame, HOLD waits on its end (R64, R70, R71). -/
def disposeOfFrame (acc : State × Bool) (c : Kind × Subject) : State × Bool :=
  let a := acc.1.cond.action c.1
  let s := dispose acc.1 c.1 c.2 a
  (if a = .hold then holdAtFrameEnd s c.1 else s, acc.2 || decide (a = .relay))

/-- The body of a relay: lane, strength byte, frame bytes; the overlong mark is not carried (R1, R180). -/
def LaneFrame.relayBody (f : LaneFrame) : List Byte := byte f.lane.val :: f.strength :: f.bytes

/-- A relay is offered: it enters with at least 9 free places, else it is lost and counted (R180). -/
def offerRelay (s : State) (f : LaneFrame) : State :=
  if Config.relayNeeds ≤ s.link.freePlaces then
    s.setLink { s.link with uplink := s.link.uplink ++ [⟨.relay, f.relayBody⟩] }
  else s.setLink { s.link with relayLost := s.link.relayLost + 1 }

/-- A frame's conditions are disposed of in the given order, and the frame is relayed once if one of them had
RELAY (R64). -/
def disposeFrame (s : State) (f : LaneFrame) (conditions : List (Kind × Subject)) : State :=
  let done := conditions.foldl disposeOfFrame (s, false)
  if done.2 then offerRelay done.1 f else done.1

/-! ## The end of a frame's processing (R6, R8, R10, R11, R12, R21) -/

/-- The frame leaves the Intake Queue and is counted as taken (R6). -/
def leaveQueue (s : State) : State :=
  s.setIntake { s.intake with
    queue := s.intake.queue.tail, taken := s.intake.taken + 1, inFlight := none, holdWaiting := none }

/-- The HOLDs that waited on the frame end take effect: `waiting` is the kind of the last HOLD action. In RUN intake
enters HELD with that kind, or with REQUEST for a pending HOLD request; in HELD, after a STEP, the cause becomes that
kind, or STEP; in STOPPED they are dropped (R8, R10, R11, R12). -/
def settleHold (s : State) (waiting : Option Kind) : State :=
  match s.intake.state, waiting, s.link.handler with
  | .stopped, _, _ => s
  | .run, some k, _ => holdNow s (.kind k)
  | .run, none, .holdWaiting _ => holdNow s .request
  | .run, none, _ => s
  | .held _, some k, _ => holdNow s (.kind k)
  | .held _, none, .stepWaiting _ =>
    (s.setIntake { s.intake with state := .held .step }).setNotices (s.notices.recauseHeld .step)
  | .held _, none, _ => s

/-- The HOLD or STEP request that waited on the frame end is answered (R8, R10, R12). -/
def answerWaiting (s : State) (lane : Fin 4) (outcome : Byte) : State :=
  match s.link.handler with
  | .holdWaiting tag =>
    if s.isStopped then answer s 0x10 tag .stopped []
    else answer s 0x10 tag .ok (be32 s.intake.taken.toNat)
  | .stepWaiting tag =>
    if s.isStopped then answer s 0x12 tag .stopped []
    else answer s 0x12 tag .ok (byte lane.val :: (be32 s.intake.taken.toNat ++ [outcome]))
  | _ => s

/-- A frame's processing ends (R21): the frame leaves the queue, the HOLDs that waited take effect, and a HOLD or
STEP that waited is answered. The outcome is what STEP reports (R10). -/
def endFrame (s : State) (lane : Fin 4) (outcome : Byte) : State :=
  answerWaiting (settleHold (leaveQueue s) s.intake.holdWaiting) lane outcome

/-- The HOLDs that waited on the end of a frame after which intake enters STOPPED: a HOLD action takes effect at the
end, then STOPPED discards the held cause and leaves the HELD status as it stands; a pending HOLD request is dropped
and a STEP gives no cause (R8, R10, R11, R12, R59, notes/assumptions/22.md). -/
def holdThenStop (s : State) (waiting : Option Kind) : State :=
  match waiting with
  | some k => (holdNow s (.kind k)).setIntake { s.intake with state := .stopped }
  | none => s

/-- The processing of a frame ends in whose placement a displaced bin's slot failed its check: the part is STOPPED
since, and intake enters STOPPED after the frame's end (R59). A HOLD or STEP that waited is answered STOPPED (R12). -/
def endFrameThenStop (s : State) (lane : Fin 4) (outcome : Byte) : State :=
  answerWaiting (holdThenStop (leaveQueue s) s.intake.holdWaiting) lane outcome

/-- A frame is refused with one group F condition (R21). -/
def refuseFrame (s : State) (f : LaneFrame) (k : Kind) (subject : Subject) : State :=
  endFrame (disposeFrame s f [(k, subject)]) f.lane (byte k.idx.val)

/-- The outcome of an applied frame in a STEP response (R10). -/
def appliedOutcome : Byte := 0xFF

end Sys2Proof.Machine
end

