-- ==== Sys2Proof/Machine/Conditions.lean ====
section
/-! DEFINITION. The disposition requests (chapter 4): RULE PUT, RULE GET, MASK PUT, CONDITION READ. -/

namespace Sys2Proof.Machine

/-! ## Re-examination (R74) -/

/-- The deferred occurrences of a kind are given up or taken over: count 0, subject absent (R73). -/
def clearDeferred (s : State) (k : Kind) : State :=
  s.setCond { s.cond with deferred := Vec.put s.cond.deferred k.idx ⟨0, none⟩ }

/-- The re-examination of a changed kind: nothing with a deferred count of 0; else its new applicable action is taken
once for all its deferred occurrences (R74). -/
def reexamine (s : State) (k : Kind) : State :=
  let d := Vec.get s.cond.deferred k.idx
  if d.count = 0 then s
  else
    match s.cond.action k with
    | .record => clearDeferred s k
    | .relay => clearDeferred s k
    | .note => clearDeferred (noteKind s k d.subject d.count) k
    | .hold => holdForT (clearDeferred (noteKind s k d.subject d.count) k) k
    | .defer => s

/-! ## RULE PUT and RULE GET (R79, R80) -/

/-- The deferred count of a kind. -/
def deferredCount (s : State) (k : Kind) : Word32 := (Vec.get s.cond.deferred k.idx).count

/-- A row is written, and the kind re-examined if the row changed (R79). -/
def writeRow (s : State) (k : Kind) (row : Row) : State :=
  if Vec.get s.cond.rows k.idx = row then s
  else reexamine (s.setCond { s.cond with rows := Vec.put s.cond.rows k.idx row }) k

/-- RULE PUT (R79). -/
def rulePutRequest (r : Request) (s : State) : State :=
  match r.operands with
  | [kind, armed, unarmed] =>
    match kind? kind, action? armed, action? unarmed with
    | some k, some a, some u =>
      reply (writeRow s k ⟨a, u⟩) r .ok (kind :: be32 (deferredCount (writeRow s k ⟨a, u⟩) k).toNat)
    | _, _, _ => reply s r .range []
  | _ => reply s r .badRequest []

/-- RULE PUT, code 60h. -/
def execRulePut (s : State) : Result := onRequest s 0x60 rulePutRequest

/-- The two actions and the mask setting of a kind; for kind 18 STOP, STOP, armed (R80). -/
def ruleData (s : State) (kind : Byte) : Option (List Byte) :=
  match kind? kind with
  | some k =>
    some [(Vec.get s.cond.rows k.idx).armed.code, (Vec.get s.cond.rows k.idx).unarmed.code,
      yesNo (Vec.get s.cond.mask k.idx)]
  | none => if kind = 18#8 then some [5, 5, 1] else none

/-- RULE GET (R80). -/
def ruleGetRequest (r : Request) (s : State) : State :=
  match r.operands with
  | [kind] =>
    match ruleData s kind with
    | some data => reply s r .ok data
    | none => reply s r .range []
  | _ => reply s r .badRequest []

/-- RULE GET, code 61h. -/
def execRuleGet (s : State) : Result := onRequest s 0x61 ruleGetRequest

/-! ## MASK PUT (R81) -/

/-- The 18 settings that the number of three mask bytes gives (section 10.8, Value codes). -/
def maskOf (n : Nat) : Vector Bool 18 := Vector.ofFn fun i : Fin 18 => n.testBit i.val

/-- The three mask bytes of 18 settings. -/
def maskBytes (m : Vector Bool 18) : List Byte :=
  let l := allKinds.map fun k => Vec.get m k.idx
  [bits (l.drop 16), bits ((l.drop 8).take 8), bits (l.take 8)]

/-- The kinds whose setting a new mask changes, in kind-number order (R74). -/
def changedKinds (old new : Vector Bool 18) : List Kind :=
  allKinds.filter fun k => Vec.get old k.idx != Vec.get new k.idx

/-- The whole mask is written, and the changed kinds are re-examined (R81). -/
def writeMask (s : State) (m : Vector Bool 18) : State :=
  (changedKinds s.cond.mask m).foldl reexamine (s.setCond { s.cond with mask := m })

/-- MASK PUT (R81). -/
def maskPutRequest (r : Request) (s : State) : State :=
  match r.operands with
  | [a, b, c] =>
    if a.toNat < 4 then reply (writeMask s (maskOf (65536 * a.toNat + num16 b c))) r .ok []
    else reply s r .range []
  | _ => reply s r .badRequest []

/-- MASK PUT, code 62h. -/
def execMaskPut (s : State) : Result := onRequest s 0x62 maskPutRequest

/-! ## CONDITION READ (R82) -/

/-- The data of CONDITION READ (section 10.8, Response data). -/
def conditionData (c : CondUnit) : List Byte :=
  (allKinds.flatMap fun k => be32 (Vec.get c.counts k.idx).toNat) ++ be32 c.storeErrors.toNat ++
    (allKinds.flatMap fun k =>
      be32 (Vec.get c.deferred k.idx).count.toNat ++ subjectBytes (Vec.get c.deferred k.idx).subject) ++
    slotBytes c.latestSlot ++ maskBytes c.mask ++
    allKinds.flatMap fun k => [(Vec.get c.rows k.idx).armed.code, (Vec.get c.rows k.idx).unarmed.code]

/-- The 19 occurrence counters set to 0 (R67). -/
def CondUnit.zeroCounts (c : CondUnit) : CondUnit := { c with counts := Vector.replicate 18 0, storeErrors := 0 }

/-- CONDITION READ (R82). -/
def conditionReadRequest (r : Request) (s : State) : State :=
  match r.operands with
  | [clear] =>
    match yesNo? clear with
    | some true => reply (s.setCond s.cond.zeroCounts) r .ok (conditionData s.cond)
    | some false => reply s r .ok (conditionData s.cond)
    | none => reply s r .range []
  | _ => reply s r .badRequest []

/-- CONDITION READ, code 63h. -/
def execConditionRead (s : State) : Result := onRequest s 0x63 conditionReadRequest

end Sys2Proof.Machine
end

