-- ==== Sys2Proof/Machine/Sheets.lean ====
section
/-! DEFINITION. The Sheet Builder (chapters 6 to 8): the order of a side, Place, Serve, Withdraw, displacement,
cut-off, opening, release with carry-over and the return of a side; and the failed check code, which withdraws the
entry of its slot (R24, R30, R75). -/

namespace Sys2Proof.Machine

/-! ## Entries and sides -/

/-- The place of a class in falling order (R104, R108). -/
def EntryClass.rank : EntryClass → Nat
  | .urgent => 0
  | .due => 1
  | .check => 2

/-- `a` is strictly lower than `b` (R108). -/
def EntryClass.lower (a b : EntryClass) : Bool := decide (b.rank < a.rank)

/-- The entry is unmarked and names the slot (R106). -/
def Entry.unmarkedAt (slot : Nat) (e : Entry) : Bool := decide (e.mark = .none) && decide (e.slot = slot)

/-- Whether an entry is marked (R101). -/
def Entry.marked (e : Entry) : Bool := decide (e.mark ≠ .none)

/-- An entry put after the last entry of its class, before the first entry of any lower class (R104). -/
def insertPlaced (e : Entry) : List Entry → List Entry
  | [] => [e]
  | x :: t => if e.cls.rank < x.cls.rank then e :: x :: t else x :: insertPlaced e t

/-- A carried entry put after the carried entries of its class and before every other entry of that class (R131). -/
def insertCarried (e : Entry) : List Entry → List Entry
  | [] => [e]
  | x :: t =>
    if e.cls.rank < x.cls.rank ∨ (e.cls.rank = x.cls.rank ∧ x.carried = false) then e :: x :: t
    else x :: insertCarried e t

/-- The bin's unmarked entry removed from a side; the others close up (R104). -/
def dropEntry (slot : Nat) : List Entry → List Entry
  | [] => []
  | x :: t => if x.unmarkedAt slot then t else x :: dropEntry slot t

/-- The bin's unmarked entry marked at its position (R113, R114). -/
def markEntry (slot : Nat) (m : Mark) : List Entry → List Entry
  | [] => []
  | x :: t => if x.unmarkedAt slot then { x with mark := m } :: t else x :: markEntry slot m t

/-- Which of a round's two sides. -/
inductive Where where
  | fill
  | other
  deriving DecidableEq, Repr

/-- The side of a round on which the unmarked entry naming the slot stands. -/
def Round.whereIs (x : Round) (slot : Nat) : Option Where :=
  if x.fill.any (Entry.unmarkedAt slot) then some .fill
  else if x.other.any (Entry.unmarkedAt slot) then some .other
  else none

/-- The round and side on which the unmarked entry naming the slot stands (R106). -/
def locate (rounds : Vector Round 64) (slot : Nat) : Option (Fin 64 × Where) :=
  allRounds.findSome? fun r => ((Vec.get rounds r).whereIs slot).map fun w => (r, w)

/-- Whether entries of the other side are removed rather than marked: it is not being read (R113–R115). -/
def OtherState.removes : OtherState → Bool
  | .free => true
  | .sealed => true
  | .opened => false
  | .spent => false

/-- The other side of a round, by letter. -/
def Side.flip : Side → Side
  | .a => .b
  | .b => .a

/-! ## Serve and Withdraw (R113, R114) -/

/-- The bin's unmarked entry, if it has one, is removed from a FILL or SEALED side and its pool slot freed, or
marked on an OPEN or SPENT side. The placement field is the requester's to write. -/
def detach (s : State) (slot : Nat) (m : Mark) : State :=
  match locate s.rounds slot with
  | none => s
  | some (r, .fill) =>
    (s.setRound r { s.round r with fill := dropEntry slot (s.round r).fill }).setFree (s.free + 1)
  | some (r, .other) =>
    if (s.round r).otherState.removes then
      (s.setRound r { s.round r with other := dropEntry slot (s.round r).other }).setFree (s.free + 1)
    else s.setRound r { s.round r with other := markEntry slot m (s.round r).other }

/-! ## A failed check code (R24, R30, R75) -/

/-- A running sweep ends early with a reason; its cursor stays (R168). -/
def endSweep (s : State) (why : EndReason) : State :=
  if s.sweep.running then s.setSweep { s.sweep with running := false, endReason := some why } else s

/-- STOP, the action of STORE_ERROR (R75): counted, latest slot, intake STOPPED, the sweep aborted, the device
STOPPED status set. The pin follows the intake state (R76); the HELD status stays (R12). Raised in a frame's own Place,
it leaves the HOLDs that wait on that frame's end to `endFrameThenStop` (R59). -/
def stop (s : State) (slot : Nat) : State :=
  let s := s.setCond { s.cond with storeErrors := s.cond.storeErrors + 1, latestSlot := some slot }
  let s := s.setIntake { s.intake with state := .stopped }
  let s := endSweep s .stopped
  s.setNotices (s.notices.raiseStopped slot)

/-- A claim finds a failed check code: the slot becomes DAMAGED, STORE_ERROR is raised, and the unmarked entry
naming the slot is withdrawn (R24). -/
def storeError (s : State) (slot : Nat) : State :=
  detach (stop (s.setTable (s.table.put slot .damaged)) slot) slot .withdrawn

/-- The Sheet Builder's claim on another bin's slot, writing its placement UNPLACED; whether the claim found its
check code good (R59, R107). -/
def claimUnplaced (s : State) (slot : Nat) : State × Bool :=
  match s.table.get slot with
  | .live r diff =>
    if diff ≠ 0 then (storeError s slot, false)
    else (s.writeRecord slot { r with placement := .unplaced }, true)
  | _ => (s, true)

/-! ## Place (R108–R112) -/

/-- How a Place ends (R107, R108). -/
inductive PlaceOutcome where
  | noRound
  | upgraded
  | unchanged
  | added
  | failed
  deriving DecidableEq, Repr

/-- A new entry for a bin (R110). -/
def newEntry (epoch : Word32) (slot : Nat) (r : BinRecord) (c : EntryClass) : Entry :=
  ⟨r.binId, slot, c, .none, false, r.fill, epoch, if c = .check then none else r.crossing⟩

/-- An entry upgraded to a class (R109). -/
def Entry.upgrade (epoch : Word32) (r : BinRecord) (c : EntryClass) (e : Entry) : Entry :=
  { e with
    cls := c, fillAt := r.fill, placedEpoch := epoch, carried := false,
    crossing := if e.crossing.isSome then e.crossing else r.crossing }

/-- A side whose unmarked entry of the slot, of lower class, is upgraded and put after the last entry of its new
class (R104, R109); none if that entry is of equal or higher class. -/
def upgradeSide (epoch : Word32) (slot : Nat) (r : BinRecord) (c : EntryClass) (l : List Entry) :
    Option (List Entry) :=
  match l.find? (Entry.unmarkedAt slot) with
  | some e => if e.cls.lower c then some (insertPlaced (e.upgrade epoch r c) (dropEntry slot l)) else none
  | none => none

/-- A Place for a bin with no unmarked entry: an entry is added to the FILL side, at cap by displacing a last entry
of strictly lower class, or the Place fails (R110–R112). -/
def addEntry (s : State) (q : Fin 64) (slot : Nat) (r : BinRecord) (c : EntryClass) : State × PlaceOutcome :=
  let x := s.round q
  let e := newEntry s.time.epoch slot r c
  if x.fill.length < x.cap then
    if 0 < s.free then ((s.setRound q { x with fill := insertPlaced e x.fill }).setFree (s.free - 1), .added)
    else (s, .failed)
  else
    match x.fill.getLast? with
    | some last =>
      if last.cls.lower c then
        ((claimUnplaced (s.setRound q { x with
            fill := insertPlaced e x.fill.dropLast, displaced := satInc16 x.displaced }) last.slot).1, .added)
      else (s, .failed)
    | none => (s, .failed)

/-- Place of the bin in `slot` with record `r` (as the requesting claim leaves it) and a class (R108). -/
def place (s : State) (slot : Nat) (r : BinRecord) (c : EntryClass) : State × PlaceOutcome :=
  match r.round with
  | none => (s, .noRound)
  | some q =>
    match locate s.rounds slot with
    | some (u, .fill) =>
      match upgradeSide s.time.epoch slot r c (s.round u).fill with
      | some l => (s.setRound u { s.round u with fill := l }, .upgraded)
      | none => (s, .unchanged)
    | some (u, .other) =>
      if (s.round u).otherState.removes then
        match upgradeSide s.time.epoch slot r c (s.round u).other with
        | some l => (s.setRound u { s.round u with other := l }, .upgraded)
        | none => (s, .unchanged)
      else (s, .unchanged)
    | none => addEntry s q slot r c

/-- The placement a Place leaves in the record of its own bin (R108–R112). -/
def PlaceOutcome.placement (before : Placement) : PlaceOutcome → Placement
  | .noRound => before
  | .upgraded => .placed
  | .unchanged => .placed
  | .added => .placed
  | .failed => .unplaced

/-! ## Opening and cut-off (R122–R126, R142) -/

/-- Port `p` opens round `r`'s SEALED side: OPEN and READING, or with 0 entries SPENT and EXHAUSTED with EMPTIED
set; cursor and idle count 0 (R142). -/
def openSide (s : State) (p : Fin 4) (r : Fin 64) : State :=
  let x := s.round r
  if x.other = [] then
    ((s.setRound r { x with otherState := .spent }).setPort p ⟨.exhausted r, 0, 0, false⟩).raiseRound r .emptied
  else (s.setRound r { x with otherState := .opened }).setPort p ⟨.reading r, 0, 0, false⟩

/-- The outcome of a cut-off event (R122, R128): a sealing with the side's entry count and whether a bound port
opened it, an empty cut-off, or a held one. -/
inductive CutoffOutcome where
  | sealed (count : Nat) (opened : Bool)
  | empty
  | held
  deriving DecidableEq, Repr

/-- A sealing (R123), with the opening by a bound port (R124). -/
def sealRound (s : State) (r : Fin 64) : State × CutoffOutcome :=
  let x := s.round r
  let s := s.setRound r { x with
    fillSide := x.fillSide.flip, fill := [], otherState := .sealed, other := x.fill,
    lastCutoff := some s.time.epoch }
  let s := s.raiseRound r .ready
  match x.bound with
  | some p => (openSide s p r, .sealed x.fill.length true)
  | none => (s, .sealed x.fill.length false)

/-- A cut-off that finds the other side FREE: a sealing, or an empty cut-off (R122, R123, R125). -/
def cutoffFree (s : State) (r : Fin 64) : State × CutoffOutcome :=
  if (s.round r).fill = [] ∧ (s.round r).sealEmpty = false then
    (s.setEmptyCutoffs (s.emptyCutoffs + 1), .empty)
  else sealRound s r

/-- A held cut-off (R126). -/
def cutoffHeld (s : State) (r : Fin 64) : State × CutoffOutcome :=
  let x := s.round r
  let s := s.setRound r (if x.held then { x with missed := satInc16 x.missed } else { x with held := true })
  (raiseT (s.raiseRound r .late) .cutoffHeld (.round r), .held)

/-- A cut-off event of round `r` (R122). -/
def cutoff (s : State) (r : Fin 64) : State × CutoffOutcome :=
  if (s.round r).otherState = .free then cutoffFree s r else cutoffHeld s r

/-- A cut-off event that the clock has handed over is taken (R93, R122); none is owed, nothing happens. -/
def takeCutoff (s : State) (r : Fin 64) : State :=
  if r ∈ s.time.cutoffsOwed then
    (cutoff (s.setTime { s.time with cutoffsOwed := s.time.cutoffsOwed.erase r }) r).1
  else s

/-! ## Release and carry-over (R129–R134) -/

/-- The figures of a release (R134). -/
structure Figures where
  freed : Nat
  carried : Nat
  displaced : Nat
  dropped : Nat
  deriving DecidableEq, Repr

/-- One unmarked entry of the released side is carried to round `r`'s FILL side; at cap a last entry of strictly
lower class is displaced, else the carried entry is dropped (R131, R132). -/
def carryOne (r : Fin 64) (acc : State × Figures) (e : Entry) : State × Figures :=
  let s := acc.1
  let g := acc.2
  let x := s.round r
  let c := { e with carried := true }
  let drop : State × Figures :=
    let claimed := claimUnplaced (s.setFree (s.free + 1)) e.slot
    (if claimed.2 then raiseT claimed.1 .placeFail (.bin e.binId) else claimed.1,
      { g with dropped := g.dropped + 1 })
  if x.fill.length < x.cap then
    (s.setRound r { x with fill := insertCarried c x.fill }, { g with carried := g.carried + 1 })
  else
    match x.fill.getLast? with
    | some last =>
      if last.cls.lower e.cls then
        ((claimUnplaced ((s.setRound r { x with
            fill := insertCarried c x.fill.dropLast, displaced := satInc16 x.displaced }).setFree (s.free + 1))
            last.slot).1,
          { g with carried := g.carried + 1, displaced := g.displaced + 1 })
      else drop
    | none => drop

/-- What a release completed (R134). -/
inductive Completion where
  | none
  | sealed (openedCount : Nat)
  | empty
  deriving DecidableEq, Repr

/-- Steps 1 to 4 of a release by port `p` of round `r` (R129): the marked entries are freed, the unmarked ones carried
in their order, the side becomes FREE and the port WAITING. -/
def handBack (s : State) (p : Fin 4) (r : Fin 64) : State × Figures :=
  let y := (s.round r).other
  let marked := y.countP Entry.marked
  let s := (s.setRound r { s.round r with otherState := .free, other := [] }).setFree (s.free + marked)
  let s := s.setPort p ⟨.waiting r, 0, 0, false⟩
  (y.filter fun e => !e.marked).foldl (carryOne r) (s, ⟨marked, 0, 0, 0⟩)

/-- Step 5 of a release: an owed cut-off is performed at once, and Held is cleared (R133). -/
def completeCutoff (s : State) (r : Fin 64) : State × Completion :=
  if (s.round r).held then
    let done := cutoffFree (s.setRound r { s.round r with held := false }) r
    (done.1, match done.2 with
      | .sealed n _ => .sealed n
      | .empty => .empty
      | .held => .none)
  else (s, .none)

/-- A release (R129). -/
def releaseSide (s : State) (p : Fin 4) (r : Fin 64) : State × Figures × Completion :=
  let back := handBack s p r
  let done := completeCutoff back.1 r
  (done.1, back.2, done.2)

/-! ## Letting go of a side (R149, R152) -/

/-- The round's binding ends and the port becomes UNBOUND. -/
def looseEnds (s : State) (p : Fin 4) (r : Fin 64) : State :=
  (s.setRound r { s.round r with bound := none }).setPort p ⟨.unbound, 0, 0, false⟩

/-- The side a port reads returns to SEALED with its unmarked entries in their order, its marked entries freed, and the
port becomes UNBOUND (R101, R149); the number freed and the number that remain. -/
def returnSide (s : State) (p : Fin 4) (r : Fin 64) : State × Nat × Nat :=
  let y := (s.round r).other
  let marked := y.countP Entry.marked
  let rest := y.filter fun e => !e.marked
  (looseEnds ((s.setRound r { s.round r with otherState := .sealed, other := rest }).setFree (s.free + marked)) p r,
    marked, rest.length)

end Sys2Proof.Machine
end

