-- ==== Sys2Proof/Machine/Intake.lean ====
section
/-! DEFINITION. Radio lanes and frame intake (chapter 1): LANE_FRAME_END, FRAME_TAKE, HOLD, RESUME, STEP, WINDOW READ
and the settings LANE_ENABLE and DEDUP_HOLD. -/

namespace Sys2Proof.Machine

/-! ## Lanes (R1–R5) -/

/-- The lane frame that an assertion's complete bytes make: the strength byte, up to 32 frame bytes, and the overlong
mark if there were more (R1). -/
def assembleFrame (lane : Fin 4) (strength : Byte) (rest : List Byte) : LaneFrame :=
  ⟨lane, strength, rest.take 32, decide (32 < rest.length)⟩

/-- A frame is offered to the Intake Queue: it enters behind the others, or is lost at 256 and raises INTAKE_OVERRUN
(R5). -/
def offerFrame (s : State) (f : LaneFrame) : State :=
  if s.intake.queue.length < Config.intakeCapacity then
    s.setIntake { s.intake with queue := s.intake.queue ++ [f], accepted := s.intake.accepted + 1 }
  else
    let l := s.lane f.lane
    raiseT (s.setLane f.lane { l with lost := l.lost + 1 }) .intakeOverrun (.lane f.lane)

/-- Chip-select of a lane is released (R1, R2, R192). -/
def endLaneFrame (n : Fin 4) (bytes : List Byte) (s : State) : State :=
  let l := s.lane n
  if l.blind then s.setLane n { l with blind := false }
  else
    match bytes with
    | [] => s
    | strength :: rest =>
      if l.enabled then
        offerFrame (s.setLane n { l with received := l.received + 1 }) (assembleFrame n strength rest)
      else s.setLane n { l with dropped := l.dropped + 1 }

/-- LANE_FRAME_END (R2). -/
def execLaneFrameEnd (lane : Nat) (bytes : List Byte) (s : State) : Result :=
  if h : lane < 4 then event s (endLaneFrame ⟨lane, h⟩ bytes) else .fault .noSuchLane

/-! ## The checks of a frame (R14–R20) -/

/-- The sensor frame in 13 frame bytes whose CRC and fields are good, or the condition of the first check that fails:
length (FORM_BAD), CRC (CRC_BAD), fields (FORM_BAD) (R14, R15). -/
def checkForm (f : LaneFrame) : Except Kind SensorFrame :=
  match f.overlong, f.bytes with
  | false, [b0, b1, b2, b3, q0, q1, fl, d0, d1, bat, res, c0, c1] =>
    let distance := num16 d0 d1
    let id := word32 b0 b1 b2 b3
    if crc16 [b0, b1, b2, b3, q0, q1, fl, d0, d1, bat, res] ≠ BitVec.ofNat 16 (num16 c0 c1) then .error .crcBad
    else if fl.toNat % 8 = 0 ∧ res = 0#8 ∧ (distance ≤ 400 ∨ distance = Config.noEcho) ∧ bat.toNat ≤ 100 ∧
        id ≠ 0#32 ∧ id ≠ 0xFFFFFFFF#32 then
      .ok ⟨id, BitVec.ofNat 16 (num16 q0 q1), if fl.getLsbD 7 then .glass else .litter, fl.getLsbD 6, fl.getLsbD 5,
        fl.getLsbD 4, fl.getLsbD 3, distance, bat.toNat⟩
    else .error .formBad
  | _, _ => .error .formBad

/-- A window entry holds the frame's pair (R17). -/
def WindowEntry.holds (id : Word32) (seq : Word16) (e : WindowEntry) : Bool :=
  decide (e.binId = id) && decide (e.seq = seq)

/-- The copy count of the entry with the pair advances (R17). -/
def countCopy (id : Word32) (seq : Word16) : List WindowEntry → List WindowEntry
  | [] => []
  | e :: t => if e.holds id seq then { e with copies := satInc8 e.copies } :: t else e :: countCopy id seq t

/-- A new entry is added at the newest end; at 128 entries the oldest is first removed (R17). -/
def addToWindow (w : List WindowEntry) (e : WindowEntry) : List WindowEntry :=
  (if w.length < Config.windowCapacity then w else w.tail) ++ [e]

/-- How the sequence check ends (R20). -/
inductive SeqCheck where
  | pass
  | gap
  | stale
  deriving DecidableEq, Repr

/-- The sequence check (R20). -/
def checkSeq (r : BinRecord) (q : Word16) : SeqCheck :=
  if r.state = .unseen then .pass
  else
    match r.lastSeq with
    | none => .pass
    | some last =>
      if q = 0#16 then .pass
      else if (q - last).toNat = 0 ∨ 32768 ≤ (q - last).toNat then .stale
      else if (q - last).toNat = 1 then .pass
      else .gap

/-- Checks 5 to 7 in the lookup claim (R19, R20): a frame that fails is refused, one that passes stays in flight for
its apply claim. -/
def lookupClaim (s : State) (f : LaneFrame) (x : SensorFrame) : State :=
  match lookup s.table x.binId with
  | .notFound => refuseFrame s f .noBin (.bin x.binId)
  | .error slot => endFrame (storeError s slot) f.lane appliedOutcome
  | .found slot r =>
    if x.kind ≠ r.kind then refuseFrame s f .kindClash (.bin x.binId)
    else
      match checkSeq r x.seq with
      | .stale => refuseFrame s f .staleSeq (.bin x.binId)
      | .pass => s.setIntake { s.intake with inFlight := some ⟨f, x, s.time.tick, s.time.epoch, slot, false, false⟩ }
      | .gap => s.setIntake { s.intake with inFlight := some ⟨f, x, s.time.tick, s.time.epoch, slot, true, false⟩ }

/-- A frame is taken and checked (R6, R14–R21). -/
def takeFrame (s : State) (f : LaneFrame) : State :=
  match checkForm f with
  | .error k => refuseFrame s f k (.lane f.lane)
  | .ok x =>
    if s.intake.window.any (WindowEntry.holds x.binId x.seq) then
      refuseFrame (s.setIntake { s.intake with window := countCopy x.binId x.seq s.intake.window }) f .duplicate
        (.bin x.binId)
    else
      lookupClaim (s.setIntake { s.intake with
        window := addToWindow s.intake.window ⟨x.binId, x.seq, s.time.tick, 1⟩ }) f x

/-- FRAME_TAKE: in RUN the head frame is taken whenever no frame is in flight; a RESTART being worked takes none
(R6, R13). In HELD a frame is taken by STEP alone (notes/assumptions/7.md). -/
def takeHead (s : State) : State :=
  if s.intake.state = .run ∧ s.intake.inFlight = none ∧ s.restarting = false then
    match s.intake.queue with
    | f :: _ => takeFrame s f
    | [] => s
  else s

/-- FRAME_TAKE (R6). -/
def execFrameTake (s : State) : Result := event s takeHead

/-! ## HOLD, RESUME, STEP (R8–R10) -/

/-- HOLD (R8). -/
def holdRequest (r : Request) (s : State) : State :=
  match r.operands with
  | [] =>
    match s.intake.state with
    | .stopped => reply s r .stopped []
    | .held _ => reply s r .ok (be32 s.intake.taken.toNat)
    | .run =>
      if s.intake.inFlight.isSome then s.setLink { s.link with handler := .holdWaiting r.tag }
      else reply (holdNow s .request) r .ok (be32 s.intake.taken.toNat)
  | _ => reply s r .badRequest []

/-- HOLD, code 10h. -/
def execHold (s : State) : Result := onRequest s 0x10 holdRequest

/-- RESUME (R9). -/
def resumeRequest (r : Request) (s : State) : State :=
  match r.operands with
  | [] =>
    match s.intake.state with
    | .stopped => reply s r .stopped []
    | .run => reply s r .ok []
    | .held _ =>
      reply ((s.setIntake { s.intake with state := .run }).setNotices s.notices.clearHeld) r .ok []
  | _ => reply s r .badRequest []

/-- RESUME, code 11h. -/
def execResume (s : State) : Result := onRequest s 0x11 resumeRequest

/-- STEP (R10): in HELD the head frame is taken at once; the request is answered at that frame's end. -/
def stepRequest (r : Request) (s : State) : State :=
  match r.operands with
  | [] =>
    match s.intake.state with
    | .stopped => reply s r .stopped []
    | .run => reply s r .busy []
    | .held _ =>
      match s.intake.queue with
      | [] => reply s r .notReady []
      | f :: _ => takeFrame (s.setLink { s.link with handler := .stepWaiting r.tag }) f
  | _ => reply s r .badRequest []

/-- STEP, code 12h. -/
def execStep (s : State) : Result := onRequest s 0x12 stepRequest

/-! ## WINDOW READ (R18) -/

/-- A window entry in a WINDOW READ response (section 10.8). -/
def WindowEntry.bytes (e : WindowEntry) : List Byte :=
  be32 e.binId.toNat ++ be16 e.seq.toNat ++ be32 e.arrivalTick.toNat ++ [e.copies]

/-- WINDOW READ (R18). -/
def windowReadRequest (r : Request) (s : State) : State :=
  match r.operands with
  | [start] =>
    if 127 < start.toNat then reply s r .range []
    else
      let part := (s.intake.window.drop start.toNat).take 32
      reply s r .ok (byte s.intake.window.length :: byte part.length :: part.flatMap WindowEntry.bytes)
  | _ => reply s r .badRequest []

/-- WINDOW READ, code 13h. -/
def execWindowRead (s : State) : Result := onRequest s 0x13 windowReadRequest

/-! ## Settings (R3, R16, R187) -/

/-- The work of SETTING PUT for one item: made when the request taken is a SETTING PUT of that item. Its value is the
two operand bytes after the item (R187). -/
def onSetting (s : State) (item : Byte) (f : Request → Nat → State → State) : Result :=
  onRequest s 0x92 fun r s =>
    match r.operands with
    | [i, h, l] => if i = item then f r (num16 h l) s else s
    | _ => s

/-- A setting is answered OK with the item and the value as stored (R187). -/
def settingStored (s : State) (r : Request) (item : Byte) (value : Nat) : State :=
  reply s r .ok (item :: be16 value)

/-- The four lane enables from the bits of a value (section 10.8, Value codes). -/
def laneEnables (lanes : Vector Lane 4) (value : Nat) : Vector Lane 4 :=
  allLanes.foldl (fun v n => Vec.put v n { Vec.get v n with enabled := value.testBit n.val }) lanes

/-- SETTING PUT of LANE_ENABLE (R3). -/
def laneEnableSetting (r : Request) (value : Nat) (s : State) : State :=
  if 15 < value then reply s r .range []
  else settingStored (s.setLanes (laneEnables s.lanes value)) r 1 value

/-- SETTING PUT of LANE_ENABLE, item 01h. -/
def execLaneEnable (s : State) : Result := onSetting s 1 laneEnableSetting

/-- SETTING PUT of DEDUP_HOLD (R16). -/
def dedupHoldSetting (r : Request) (value : Nat) (s : State) : State :=
  if value = 0 ∨ 60 < value then reply s r .range []
  else settingStored (s.setIntake { s.intake with dedupHold := value }) r 2 value

/-- SETTING PUT of DEDUP_HOLD, item 02h. -/
def execDedupHold (s : State) : Result := onSetting s 2 dedupHoldSetting

end Sys2Proof.Machine
end

