-- ==== Sys2Proof/Machine/Ports.lean ====
section
/-! DEFINITION. The draw ports (chapter 8): BIND, UNBIND, DRAW, REWIND, RELEASE, PORT GET, DRAW_TIMER_EXPIRY and the
setting DRAW_IDLE_LIMIT. -/

namespace Sys2Proof.Machine

/-! ## The side a port reads (R139) -/

/-- The round a port is bound to. -/
def PortState.round : PortState → Option (Fin 64)
  | .unbound => none
  | .waiting r => some r
  | .reading r => some r
  | .exhausted r => some r

/-- The round whose non-FILL side a port reads. -/
def PortState.reads : PortState → Option (Fin 64)
  | .unbound => none
  | .waiting _ => none
  | .reading r => some r
  | .exhausted r => some r

/-- The letter of the side a port reads; FFh for none (R190). -/
def sideReadByte (s : State) (p : Fin 4) : Byte :=
  match (s.port p).state.reads with
  | some q => (s.round q).fillSide.flip.code
  | none => 0xFF

/-- The entries of the side a port reads; none when it reads none. -/
def sideRead (s : State) (p : Fin 4) : List Entry :=
  match (s.port p).state.reads with
  | some q => (s.round q).other
  | none => []

/-! ## BIND (R141, R142) -/

/-- The binding of an UNBOUND port to a round without a bound port, with the opening of a SEALED side (R141). -/
def bindPort (s : State) (p : Fin 4) (q : Fin 64) : State :=
  let s := s.setRound q { s.round q with bound := some p }
  if (s.round q).otherState = .sealed then openSide s p q else s.setPort p ⟨.waiting q, 0, 0, false⟩

/-- The data of an OK to BIND, from the state after it. A port left WAITING reads no side: its side byte is FFh
(R190), its entry count 0 (notes/assumptions/25.md). -/
def bindData (s : State) (p : Fin 4) (q : Fin 64) : List Byte :=
  [(s.port p).state.code, sideReadByte s p, byte (sideRead s p).length, yesNo (s.round q).held]

/-- BIND (R141). -/
def bindRequest (r : Request) (s : State) : State :=
  match r.operands with
  | [port, round] =>
    if s.isStopped then reply s r .stopped []
    else
      match index? 4 port, index? 64 round with
      | some p, some q =>
        if (s.port p).state ≠ .unbound then reply s r .busy []
        else if (s.round q).bound.isSome then reply s r .boundElsewhere []
        else reply (bindPort s p q) r .ok (bindData (bindPort s p q) p q)
      | _, _ => reply s r .range []
  | _ => reply s r .badRequest []

/-- BIND, code 40h. -/
def execBind (s : State) : Result := onRequest s 0x40 bindRequest

/-! ## UNBIND (R149) -/

/-- UNBIND of a port: the state after it, the marked entries freed and the entries that remain. -/
def unbindPort (s : State) (p : Fin 4) : State × Nat × Nat :=
  match (s.port p).state with
  | .unbound => (s, 0, 0)
  | .waiting q => (looseEnds s p q, 0, 0)
  | .reading q => returnSide s p q
  | .exhausted q => returnSide s p q

/-- UNBIND (R149). -/
def unbindRequest (r : Request) (s : State) : State :=
  match r.operands with
  | [port] =>
    match index? 4 port with
    | some p => reply (unbindPort s p).1 r .ok [byte (unbindPort s p).2.1, byte (unbindPort s p).2.2]
    | none => reply s r .range []
  | _ => reply s r .badRequest []

/-- UNBIND, code 41h. -/
def execUnbind (s : State) : Result := onRequest s 0x41 unbindRequest

/-! ## DRAW (R143–R146) -/

/-- How the reading of the entries of a DRAW ends: the bytes of all of them, or the slot whose check code failed. -/
inductive DrawRead where
  | entries (data : List Byte)
  | error (slot : Nat)
  deriving DecidableEq, Repr

/-- An entry's bytes put before those of the entries after it. -/
def DrawRead.prepend (l : List Byte) : DrawRead → DrawRead
  | .entries data => .entries (l ++ data)
  | .error slot => .error slot

/-- The entries of a DRAW are read in position order; an unmarked entry by a claim on the slot it names (R144, R145).
A slot that is not LIVE gives no current fill (notes/assumptions/16.md). -/
def readEntries (t : BinTable) : List Entry → DrawRead
  | [] => .entries []
  | e :: rest =>
    if e.marked then (readEntries t rest).prepend (e.bytes none)
    else
      match t.get e.slot with
      | .live x diff => if diff ≠ 0 then .error e.slot else (readEntries t rest).prepend (e.bytes x.fill)
      | _ => (readEntries t rest).prepend (e.bytes none)

/-- The port's record with its idle count at 0 and no expiry standing (R143, R147, R154). -/
def Port.used (x : Port) : Port := { x with idle := 0, expiryOwed := false }

/-- The port and the side after a DRAW or an opening has brought the cursor to `c` (R143, R146). -/
def moveCursor (s : State) (p : Fin 4) (q : Fin 64) (c : Nat) : State :=
  if (s.round q).other.length ≤ c then
    ((s.setRound q { s.round q with otherState := .spent }).setPort p ⟨.exhausted q, c, 0, false⟩).raiseRound q .emptied
  else s.setPort p ⟨.reading q, c, 0, false⟩

/-- DRAW of up to `n` entries on a READING port (R143–R146). -/
def drawEntries (s : State) (r : Request) (p : Fin 4) (q : Fin 64) (n : Nat) : State :=
  let cursor := (s.port p).cursor
  let part := ((s.round q).other.drop cursor).take n
  match readEntries s.table part with
  | .error slot => reply (storeError s slot) r .stopped []
  | .entries data =>
    reply (moveCursor s p q (cursor + part.length)) r .ok
      (byte part.length :: (be16 ((s.round q).other.length - (cursor + part.length)) ++ data))

/-- DRAW (R143). -/
def drawRequest (r : Request) (s : State) : State :=
  match r.operands with
  | [port, n] =>
    if s.isStopped then reply s r .stopped []
    else
      match index? 4 port with
      | none => reply s r .range []
      | some p =>
        if n.toNat = 0 ∨ 32 < n.toNat then reply s r .badRequest []
        else
          match (s.port p).state with
          | .unbound => reply s r .notBound []
          | .waiting _ => reply s r .notReady []
          | .exhausted _ => reply (s.setPort p (s.port p).used) r .ok (0 :: be16 0)
          | .reading q => drawEntries s r p q n.toNat
  | _ => reply s r .badRequest []

/-- DRAW, code 42h. -/
def execDraw (s : State) : Result := onRequest s 0x42 drawRequest

/-! ## REWIND (R147) -/

/-- REWIND of a port that reads round `q`'s side (R147). -/
def rewindPort (s : State) (p : Fin 4) (q : Fin 64) : State :=
  if (s.round q).other = [] then s.setPort p ⟨(s.port p).state, 0, 0, false⟩
  else (s.setRound q { s.round q with otherState := .opened }).setPort p ⟨.reading q, 0, 0, false⟩

/-- REWIND (R147). -/
def rewindRequest (r : Request) (s : State) : State :=
  match r.operands with
  | [port] =>
    if s.isStopped then reply s r .stopped []
    else
      match index? 4 port with
      | none => reply s r .range []
      | some p =>
        match (s.port p).state with
        | .unbound => reply s r .notBound []
        | .waiting _ => reply s r .notReady []
        | .reading q => reply (rewindPort s p q) r .ok []
        | .exhausted q => reply (rewindPort s p q) r .ok []
  | _ => reply s r .badRequest []

/-- REWIND, code 43h. -/
def execRewind (s : State) : Result := onRequest s 0x43 rewindRequest

/-! ## RELEASE (R148) -/

/-- The completion of a release and its opened count (R134). -/
def Completion.bytes : Completion → List Byte
  | .none => [0, 0]
  | .sealed n => [1, byte n]
  | .empty => [2, 0]

/-- The data of an OK to RELEASE. -/
def releaseData (g : Figures) (c : Completion) : List Byte :=
  [byte g.freed, byte g.carried, byte g.displaced, byte g.dropped] ++ c.bytes

/-- RELEASE (R148). -/
def releaseRequest (r : Request) (s : State) : State :=
  match r.operands with
  | [port] =>
    if s.isStopped then reply s r .stopped []
    else
      match index? 4 port with
      | none => reply s r .range []
      | some p =>
        match (s.port p).state with
        | .unbound => reply s r .notBound []
        | .waiting _ => reply s r .notReady []
        | .reading q =>
          reply (releaseSide s p q).1 r .ok (releaseData (releaseSide s p q).2.1 (releaseSide s p q).2.2)
        | .exhausted q =>
          reply (releaseSide s p q).1 r .ok (releaseData (releaseSide s p q).2.1 (releaseSide s p q).2.2)
  | _ => reply s r .badRequest []

/-- RELEASE, code 44h. -/
def execRelease (s : State) : Result := onRequest s 0x44 releaseRequest

/-! ## PORT GET (R156) -/

/-- The data of PORT GET (section 10.8, Response data). -/
def portData (s : State) (p : Fin 4) : List Byte :=
  let x := s.port p
  let l := sideRead s p
  [x.state.code, indexByte x.state.round, byte x.cursor] ++ be16 x.idle ++
    [sideReadByte s p, byte l.length, byte (l.countP Entry.marked), byte (l.length - x.cursor)] ++ be16 s.drawTimeout

/-- PORT GET (R156). -/
def portGetRequest (r : Request) (s : State) : State :=
  match r.operands with
  | [port] =>
    match index? 4 port with
    | some p => reply s r .ok (portData s p)
    | none => reply s r .range []
  | _ => reply s r .badRequest []

/-- PORT GET, code 45h. -/
def execPortGet (s : State) : Result := onRequest s 0x45 portGetRequest

/-! ## The draw timer (R152, R153) -/

/-- The expiry of a port that reads round `q`'s side: the side returns to SEALED, and DRAW_TIMEOUT is raised (R152). -/
def expirePort (s : State) (p : Fin 4) (q : Fin 64) : State :=
  raiseT (returnSide s p q).1 .drawTimeout (.portRound p q)

/-- The expiry that a tick handed over is taken; none stands, nothing happens (R152, R154). -/
def takeExpiry (p : Fin 4) (s : State) : State :=
  if (s.port p).expiryOwed then
    match (s.port p).state.reads with
    | some q => expirePort s p q
    | none => s
  else s

/-- DRAW_TIMER_EXPIRY (R152). -/
def execDrawTimerExpiry (port : Nat) (s : State) : Result :=
  if h : port < 4 then event s (takeExpiry ⟨port, h⟩) else .fault .noSuchPort

/-- An event that the clocks owe the Sheet Builder is taken, whole, as it would be at any other time (R107). -/
def takeSheetEvent (s : State) : SheetEvent → State
  | .cutoff n => if h : n < 64 then takeCutoff s ⟨n, h⟩ else s
  | .expiry n => if h : n < 4 then takeExpiry ⟨n, h⟩ s else s

/-- The draw timeout stored for a value of at most 3600 (R153). -/
def storedTimeout (value : Nat) : Nat := if value = 0 then 0 else max 10 value

/-- SETTING PUT of DRAW_IDLE_LIMIT (R153). -/
def drawIdleLimitSetting (r : Request) (value : Nat) (s : State) : State :=
  if 3600 < value then reply s r .range []
  else settingStored (s.setDrawTimeout (storedTimeout value)) r 5 (storedTimeout value)

/-- SETTING PUT of DRAW_IDLE_LIMIT, item 05h. -/
def execDrawIdleLimit (s : State) : Result := onSetting s 5 drawIdleLimitSetting

end Sys2Proof.Machine
end

