-- ==== Sys2Proof/Machine/Rounds.lean ====
section
/-! DEFINITION. The round requests (chapters 6 and 7): ROUND PUT, ROUND GET, CUTOFF NOW. -/

namespace Sys2Proof.Machine

/-! ## ROUND PUT (R116, R117) -/

/-- The operands of a ROUND PUT. -/
structure RoundPut where
  enabled : Bool
  minute : Nat
  postscaler : Nat
  phase : Nat
  cap : Nat
  sealEmpty : Bool
  deriving DecidableEq, Repr

/-- The operands agree with their ranges (R116). -/
def RoundPut.inRange (o : RoundPut) : Bool :=
  decide (o.minute ≤ 1439 ∧ 1 ≤ o.postscaler ∧ o.postscaler ≤ 7 ∧ o.phase < o.postscaler ∧ 1 ≤ o.cap)

/-- The round and the fields that the operands of ROUND PUT give, if they are in range (R116). -/
def roundPutOperands (round enabled post phase cap empty : Byte) (minute : Nat) : Option (Fin 64 × RoundPut) :=
  match index? 64 round, yesNo? enabled, yesNo? empty with
  | some q, some e, some y =>
    let o : RoundPut := ⟨e, minute, post.toNat, phase.toNat, cap.toNat, y⟩
    if o.inRange then some (q, o) else none
  | _, _, _ => none

/-- The six fields written together; enabled no clears Held (R116, R117). -/
def Round.configure (x : Round) (o : RoundPut) : Round :=
  { x with
    enabled := o.enabled, cutoffMinute := o.minute, postscaler := o.postscaler, phase := o.phase, cap := o.cap,
    sealEmpty := o.sealEmpty, held := x.held && o.enabled }

/-- The entries of a side by its letter. -/
def Round.sideEntries (x : Round) (d : Side) : List Entry := if x.fillSide = d then x.fill else x.other

/-- ROUND PUT (R116). -/
def roundPutRequest (r : Request) (s : State) : State :=
  match r.operands with
  | [round, enabled, m0, m1, post, phase, cap, empty] =>
    if s.isStopped then reply s r .stopped []
    else
      match roundPutOperands round enabled post phase cap empty (num16 m0 m1) with
      | some (q, o) =>
        if o.cap < (s.round q).fill.length ∨ o.cap < (s.round q).other.length then reply s r .range []
        else
          reply (s.setRound q ((s.round q).configure o)) r .ok
            [round, byte ((s.round q).sideEntries .a).length, byte ((s.round q).sideEntries .b).length]
      | none => reply s r .range []
  | _ => reply s r .badRequest []

/-- ROUND PUT, code 70h. -/
def execRoundPut (s : State) : Result := onRequest s 0x70 roundPutRequest

/-! ## ROUND GET (R118) -/

/-- The state code of a side by its letter. -/
def Round.sideCode (x : Round) (d : Side) : Byte := if x.fillSide = d then 0 else x.otherState.code

/-- The number of unmarked entries of a class. -/
def unmarkedOf (l : List Entry) (c : EntryClass) : Nat := l.countP fun e => !e.marked && decide (e.cls = c)

/-- A side in a ROUND GET response: state, entry count, marked count, unmarked URGENT, DUE and CHECK counts. -/
def Round.sideBytes (x : Round) (d : Side) : List Byte :=
  let l := x.sideEntries d
  [x.sideCode d, byte l.length, byte (l.countP Entry.marked), byte (unmarkedOf l .urgent), byte (unmarkedOf l .due),
    byte (unmarkedOf l .check)]

/-- The data of ROUND GET (section 10.8, Response data). -/
def roundData (x : Round) (f : RoundFlags) : List Byte :=
  [yesNo x.enabled] ++ be16 x.cutoffMinute ++
    [byte x.postscaler, byte x.phase, byte x.cap, yesNo x.sealEmpty, x.fillSide.code] ++
    x.sideBytes .a ++ x.sideBytes .b ++ [yesNo x.held] ++ be16 x.missed.toNat ++ be16 x.displaced.toNat ++
    [yesNo x.lastCutoff.isSome] ++ epochBytes x.lastCutoff ++
    [indexByte x.bound, flagBits f.ready.set f.emptied.set f.late.set,
      flagBits f.ready.enabled f.emptied.enabled f.late.enabled]

/-- ROUND GET (R118). -/
def roundGetRequest (r : Request) (s : State) : State :=
  match r.operands with
  | [round] =>
    match index? 64 round with
    | some q => reply s r .ok (roundData (s.round q) (Vec.get s.notices.rounds q))
    | none => reply s r .range []
  | _ => reply s r .badRequest []

/-- ROUND GET, code 71h. -/
def execRoundGet (s : State) : Result := onRequest s 0x71 roundGetRequest

/-! ## CUTOFF NOW (R128) -/

/-- The data of an OK to CUTOFF NOW, from the state after the event. -/
def cutoffData (s : State) (q : Fin 64) : CutoffOutcome → List Byte
  | .sealed n opened => [1, byte n, yesNo opened]
  | .empty => 2 :: be32 s.emptyCutoffs.toNat
  | .held => 3 :: be16 (s.round q).missed.toNat

/-- CUTOFF NOW (R128). -/
def cutoffNowRequest (r : Request) (s : State) : State :=
  match r.operands with
  | [round] =>
    if s.isStopped then reply s r .stopped []
    else
      match index? 64 round with
      | some q => reply (cutoff s q).1 r .ok (cutoffData (cutoff s q).1 q (cutoff s q).2)
      | none => reply s r .range []
  | _ => reply s r .badRequest []

/-- CUTOFF NOW, code 72h. -/
def execCutoffNow (s : State) : Result := onRequest s 0x72 cutoffNowRequest

end Sys2Proof.Machine
end

