-- ==== Sys2Proof/Machine/Status.lean ====
section
/-! DEFINITION. STATUS (R185): its items, and the reading of them, at once or with events between. -/

namespace Sys2Proof.Machine

/-- Every item of STATUS, in the order of the response (R185, section 10.8). -/
def allStatusItems : List StatusItem :=
  [.intakeState, .stoppedIndication, .intakeQueue, .sweep, .epoch, .entryPool, .downlinkQueue, .uplinkQueue,
    .deviceStatuses, .conditionStatuses]

/-- The place of an item in the response. -/
def statusPlace : StatusItem → Fin 10
  | .intakeState => 0
  | .stoppedIndication => 1
  | .intakeQueue => 2
  | .sweep => 3
  | .epoch => 4
  | .entryPool => 5
  | .downlinkQueue => 6
  | .uplinkQueue => 7
  | .deviceStatuses => 8
  | .conditionStatuses => 9

/-- The device statuses in a STATUS response, with their enables, the cause of HELD and the slot of STOPPED. -/
def Notices.deviceBytes (n : Notices) : List Byte :=
  [flagBits n.held.set n.sweepDone.set n.stopped.set,
    flagBits n.held.enabled n.sweepDone.enabled n.stopped.enabled, (n.heldCause.map Cause.code).getD 0xFF] ++
  slotBytes n.stoppedSlot

/-- The condition statuses in a STATUS response. -/
def Notices.conditionBytes (n : Notices) : List Byte :=
  allKinds.flatMap fun k =>
    yesNo (Vec.get n.conds k.idx).set ::
      (subjectBytes (Vec.get n.conds k.idx).subject ++ be32 (Vec.get n.conds k.idx).since.toNat)

/-- An item of STATUS as it stands, whole (R185; its bytes: section 10.8, Response data). -/
def statusItem (s : State) : StatusItem → List Byte
  | .intakeState => [s.intake.state.code, s.intake.state.causeCode]
  | .stoppedIndication => [yesNo s.isStopped]
  | .intakeQueue =>
    be32 s.intake.accepted.toNat ++ be32 s.intake.taken.toNat ++ be16 s.intake.queue.length
  | .sweep => yesNo s.sweep.running :: be16 s.sweep.cursor
  | .epoch => be32 s.time.epoch.toNat
  | .entryPool => be16 s.free
  | .downlinkQueue => [byte s.link.downlink.length]
  | .uplinkQueue => [byte s.link.uplink.length, yesNo s.link.reserved, byte s.notices.list.length]
  | .deviceStatuses => s.notices.deviceBytes
  | .conditionStatuses => s.notices.conditionBytes

/-- An item is read, if it has not been read before. -/
def readItem (s : State) (got : StatusRead) (i : StatusItem) : StatusRead :=
  Vec.put got (statusPlace i) (some ((Vec.get got (statusPlace i)).getD (statusItem s i)))

/-- Every item has been read. -/
def StatusRead.complete (got : StatusRead) : Bool := allStatusItems.all fun i => (Vec.get got (statusPlace i)).isSome

/-- The data of STATUS: the items read, in the order of the response. -/
def StatusRead.data (got : StatusRead) : List Byte := allStatusItems.flatMap fun i => (Vec.get got (statusPlace i)).getD []

/-- A STATUS in hand is begun: nothing has been read. -/
def beginStatus (s : State) : State :=
  match s.link.handler with
  | .taken r =>
    if r.code = 0x90#8 then
      match r.operands with
      | [] => s.setLink { s.link with handler := .readingStatus r.tag (Vector.replicate 10 none) }
      | _ => reply s r .badRequest []
    else s
  | _ => s

/-- Items of the STATUS in hand are read as they stand; once every item has been read it is answered (R185). -/
def readStatus (items : List StatusItem) (s : State) : State :=
  match s.link.handler with
  | .readingStatus tag got =>
    let got := items.foldl (readItem s) got
    if StatusRead.complete got then answer s 0x90 tag .ok (StatusRead.data got)
    else s.setLink { s.link with handler := .readingStatus tag got }
  | _ => s

/-- The work of one STATUS command: the request is begun if it is not, and the given items are read. Further commands go
on with the same request, and whatever is taken between them falls between the items (R185,
notes/assumptions/27.md). -/
def statusWork (items : List StatusItem) (s : State) : State := readStatus items (beginStatus s)

/-- STATUS, code 90h. -/
def execStatus (s : State) (items : List StatusItem := allStatusItems) : Result := event s (statusWork items)

end Sys2Proof.Machine
end

