-- ==== Sys2Proof/Machine/Evaluate.lean ====
section
/-! DEFINITION. Profiles and reading evaluation (chapter 3): APPLY_CLAIM, PROFILE PUT, PROFILE GET. -/

namespace Sys2Proof.Machine

/-! ## The evaluation of a reading, steps 8 to 14 -/

/-- A record in evaluation with what the steps have noted: the group R or A conditions found, whether step 8 cleared
a set Silent flag (R47), whether the bin left DUE in step 13 (R53). -/
structure Reading where
  bin : BinRecord
  clearedSilent : Bool
  leftDue : Bool
  blankedRead : Bool
  stepJump : Bool
  overfill : Bool
  deriving DecidableEq, Repr

/-- Step 8: the frame's particulars (R47). -/
def writeParticulars (x : InFlight) (r : BinRecord) : Reading :=
  ⟨{ r with
      lastSeq := some x.sensor.seq, heardEpoch := x.arrivalEpoch, lastLane := some x.frame.lane,
      lastSignal := some x.frame.strength, battery := some x.sensor.battery, silent := false },
    r.silent, false, false, false, false⟩

/-- Step 9: what a LIFT writes to the record; the Serve is asked of the Sheet Builder besides (R48). -/
def liftRecord (p : Profile) (x : InFlight) (r : BinRecord) : BinRecord :=
  { r with
    state := .blanked, blankUntil := some (x.arrivalEpoch + BitVec.ofNat 32 p.blankEpochs), crossing := none,
    placement := .none }

/-- The blanking has expired: the arrival epoch has reached the blank-until epoch, modulo 2^32 (R49). -/
def blankingExpired (arrival blankUntil : Word32) : Bool := decide ((arrival - blankUntil).toNat < 2147483648)

/-- The fill of a distance under a profile (R51). -/
def fillOf (p : Profile) (d : Nat) : Nat :=
  if p.emptyDepth ≤ d then 0
  else if d ≤ p.fullDepth then 100
  else 100 * (p.emptyDepth - d) / (p.emptyDepth - p.fullDepth)

/-- The step check refuses the new fill: it differs from the stored one by more than the max step (R52). -/
def stepRefuses (p : Profile) (r : BinRecord) (newFill : Nat) : Bool :=
  match r.state, r.fill with
  | .normal, some old => decide (p.maxStep < max newFill old - min newFill old)
  | .due, some old => decide (p.maxStep < max newFill old - min newFill old)
  | .urgent, some old => decide (p.maxStep < max newFill old - min newFill old)
  | _, _ => false

/-- Step 13, first part: the fill is applied and the state evaluated against raise and clear (R53, R60). -/
def evaluateFill (p : Profile) (arrival : Word32) (fill : Nat) (y : Reading) : Reading :=
  let r := { y.bin with fill := some fill, applied := satInc16 y.bin.applied }
  match r.state with
  | .urgent => { y with bin := r }
  | .due =>
    if fill < p.clear then { y with bin := { r with state := .normal, crossing := none }, leftDue := true }
    else { y with bin := r }
  | _ =>
    if p.raise ≤ fill then
      { y with bin := { r with state := .due, crossing := some arrival, blankUntil := none } }
    else { y with bin := { r with state := .normal, crossing := none, blankUntil := none } }

/-- The record becomes URGENT; the crossing epoch is captured if it holds none, the blank-until epoch goes (R54,
R55). -/
def makeUrgent (arrival : Word32) (r : BinRecord) : BinRecord :=
  if r.state = .urgent then r
  else
    { r with
      state := .urgent, blankUntil := none,
      crossing := if r.crossing.isSome then r.crossing else some arrival }

/-- Step 13, second part: the overflow check (R54). -/
def checkOverflow (p : Profile) (arrival : Word32) (fill : Nat) (y : Reading) : Reading :=
  if p.overflow ≤ fill then { y with bin := makeUrgent arrival y.bin, overfill := true } else y

/-- A reading is refused and counted (R60). -/
def refuseReading (r : BinRecord) : BinRecord := { r with refused := satInc16 r.refused }

/-- Steps 9 to 13: a LIFT, or the first of the blanking check, the no-echo reading and the step check that stops the
frame, or the application of its fill (R48–R54). -/
def evaluateReading (p : Profile) (x : InFlight) (y : Reading) : Reading :=
  if x.sensor.lift then { y with bin := liftRecord p x y.bin }
  else if y.bin.state = .blanked ∧ blankingExpired x.arrivalEpoch (y.bin.blankUntil.getD x.arrivalEpoch) = false then
    { y with bin := refuseReading y.bin, blankedRead := true }
  else if x.sensor.distance = Config.noEcho then
    { y with bin := if y.bin.state = .unseen then { y.bin with state := .normal } else y.bin }
  else if stepRefuses p y.bin (fillOf p x.sensor.distance) then
    { y with bin := refuseReading y.bin, stepJump := true }
  else
    checkOverflow p x.arrivalEpoch (fillOf p x.sensor.distance)
      (evaluateFill p x.arrivalEpoch (fillOf p x.sensor.distance) y)

/-- Step 14: marks and events (R55, R56). -/
def applyEvents (p : Profile) (x : InFlight) (y : Reading) : Reading :=
  let r := { y.bin with
    heat := y.bin.heat || x.sensor.heat, tamper := y.bin.tamper || x.sensor.tamper,
    lowBattery := y.bin.lowBattery || x.sensor.lowBattery }
  { y with bin := if (x.sensor.heat || x.sensor.tamper) && p.eventsUrgent then makeUrgent x.arrivalEpoch r else r }

/-- Steps 8 to 14. -/
def evaluate (p : Profile) (x : InFlight) (r : BinRecord) : Reading :=
  applyEvents p x (evaluateReading p x (writeParticulars x r))

/-! ## Step 15: the request of the Sheet Builder (R57, R58) -/

/-- The request that the final state calls for. -/
inductive SheetRequest where
  | place (c : EntryClass)
  | withdraw
  | nothing
  deriving DecidableEq, Repr

/-- The evaluator's one request in step 15 (R57). -/
def Reading.sheetRequest (y : Reading) : SheetRequest :=
  match y.bin.state with
  | .due => .place .due
  | .urgent => .place .urgent
  | _ => if y.leftDue || y.clearedSilent then .withdraw else .nothing

/-- The request is made; the record with its placement, and whether the placement failed (R57, R58). -/
def makeSheetRequest (s : State) (slot : Nat) (r : BinRecord) : SheetRequest → State × BinRecord × Bool
  | .place c =>
    let done := place s slot r c
    (done.1, { r with placement := done.2.placement r.placement }, decide (done.2 = .failed))
  | .withdraw => (detach s slot .withdrawn, { r with placement := .none }, false)
  | .nothing => (s, r, false)

/-! ## The claim, its conditions, the frame's end -/

/-- The conditions of an applied frame, in kind-number order, each with the bin ID as subject (R61, R64). -/
def conditionsOf (x : InFlight) (y : Reading) (placeFailed : Bool) : List (Kind × Subject) :=
  let one (b : Bool) (k : Kind) : List (Kind × Subject) := if b then [(k, .bin x.sensor.binId)] else []
  one y.blankedRead .blankedRead ++ one y.stepJump .stepJump ++ one x.gap .seqGap ++ one x.sensor.heat .heat ++
    one x.sensor.tamper .tamper ++ one x.sensor.lowBattery .lowBattery ++ one y.overfill .overfill ++
    one placeFailed .placeFail

/-- The request in hand is worked, if it is one that the Sheet Builder works without a claim on the Bin Table: CUTOFF
NOW, ROUND PUT, ROUND GET and the port requests but DRAW and RELEASE, which R107 takes only while no claim is in
progress. -/
def workSheetRequest (s : State) : State :=
  match s.link.handler with
  | .taken r =>
    match r.code.toNat with
    | 0x40 => bindRequest r s
    | 0x41 => unbindRequest r s
    | 0x43 => rewindRequest r s
    | 0x45 => portGetRequest r s
    | 0x70 => roundPutRequest r s
    | 0x71 => roundGetRequest r s
    | 0x72 => cutoffNowRequest r s
    | _ => s
  | _ => s

/-- What falls between the two operations of one apply claim is taken, whole, as it would be at any other time
(R107, R185, notes/assumptions/21.md). -/
def takeBetween (s : State) : Between → State
  | .event e => takeSheetEvent s e
  | .requestTake => takeRequest s
  | .sheetRequest => workSheetRequest s
  | .statusRead items => statusWork items s

/-- Steps 8 to 15 on a verified record, and step 16 after the claim: the Serve of a LIFT; what the Sheet
Builder takes between the two operations (R107); the request of step 15; the record written with its new check code;
the conditions disposed of; the frame's end (R47, R61), after which intake enters STOPPED if the slot of a bin that the
request displaced failed its check (R59). -/
def applyRecord (s : State) (x : InFlight) (r : BinRecord) (between : List Between) : State :=
  let y := evaluate (Vec.get s.profiles r.profile) x r
  let s := if x.sensor.lift then detach s x.slot .served else s
  let s := between.foldl takeBetween s
  let done := makeSheetRequest s x.slot y.bin y.sheetRequest
  let t := disposeFrame (done.1.writeRecord x.slot done.2.1) x.frame (conditionsOf x y done.2.2)
  if done.1.isStopped && !s.isStopped then endFrameThenStop t x.frame.lane appliedOutcome
  else endFrame t x.frame.lane appliedOutcome

/-- The apply claim of the frame in flight (R39, R47). It begins by verifying the slot: a LIVE slot whose check code
fails ends the frame at once, also one that holds a new record since the frame's own was dropped (R24,
notes/assumptions/26.md). A slot dropped since the lookup claim then ends the frame with NO_BIN, whatever it holds. A
slot that another claim has made DAMAGED since is open (notes/assumptions/12.md). -/
def applyInFlight (s : State) (x : InFlight) (between : List Between) : State :=
  match s.table.get x.slot with
  | .live r diff =>
    if diff ≠ 0 then endFrame (storeError s x.slot) x.frame.lane appliedOutcome
    else if x.dropped then refuseFrame s x.frame .noBin (.bin x.sensor.binId)
    else applyRecord s x r between
  | _ =>
    if x.dropped || Config.damagedFrameIsNoBin s.time.tick x.slot then
      refuseFrame s x.frame .noBin (.bin x.sensor.binId)
    else endFrame s x.frame.lane appliedOutcome

/-- APPLY_CLAIM: without a frame in flight there is none. -/
def applyClaim (between : List Between) (s : State) : State :=
  match s.intake.inFlight with
  | some x => applyInFlight s x between
  | none => s

/-- APPLY_CLAIM (R47). -/
def execApplyClaim (between : List Between) (s : State) : Result := event s (applyClaim between)

/-! ## PROFILE PUT and PROFILE GET (R43, R45) -/

/-- The fields of a profile agree with the ranges of R42 and with one another (R43). -/
def Profile.inRange (p : Profile) : Bool :=
  decide (20 ≤ p.emptyDepth ∧ p.emptyDepth ≤ 400 ∧ p.fullDepth + 10 ≤ p.emptyDepth ∧ 1 ≤ p.raise ∧ p.raise ≤ 100 ∧
    p.clear < p.raise ∧ p.raise ≤ p.overflow ∧ p.overflow ≤ 100 ∧ 1 ≤ p.maxStep ∧ p.maxStep ≤ 100 ∧
    1 ≤ p.silenceLimit)

/-- The profile number and the profile that the operands of PROFILE PUT give, if they are in range (R43). -/
def profileOperands (number raise clear overflow maxStep blank check events : Byte) (e f silence : Nat) :
    Option (Fin 16 × Profile) :=
  match index? 16 number, yesNo? check, yesNo? events with
  | some n, some c, some u =>
    let p : Profile := ⟨e, f, raise.toNat, clear.toNat, overflow.toNat, maxStep.toNat, blank.toNat, silence, c, u⟩
    if p.inRange then some (n, p) else none
  | _, _, _ => none

/-- PROFILE PUT (R43). -/
def profilePutRequest (r : Request) (s : State) : State :=
  match r.operands with
  | [n, e0, e1, f0, f1, raise, clear, overflow, maxStep, blank, s0, s1, check, events] =>
    if s.isStopped then reply s r .stopped []
    else
      match profileOperands n raise clear overflow maxStep blank check events (num16 e0 e1) (num16 f0 f1)
          (num16 s0 s1) with
      | some (i, p) => reply (s.setProfiles (Vec.put s.profiles i p)) r .ok [n]
      | none => reply s r .range []
  | _ => reply s r .badRequest []

/-- PROFILE PUT, code 30h. -/
def execProfilePut (s : State) : Result := onRequest s 0x30 profilePutRequest

/-- PROFILE GET (R45). -/
def profileGetRequest (r : Request) (s : State) : State :=
  match r.operands with
  | [n] =>
    match index? 16 n with
    | some i => reply s r .ok (Profile.bytes i (Vec.get s.profiles i))
    | none => reply s r .range []
  | _ => reply s r .badRequest []

/-- PROFILE GET, code 31h. -/
def execProfileGet (s : State) : Result := onRequest s 0x31 profileGetRequest

end Sys2Proof.Machine
end

