-- ==== Sys2Proof/Machine/Table.lean ====
section
/-! DEFINITION. The table requests (chapter 2): BIN PUT, BIN GET, BIN DROP, TABLE READ. -/

namespace Sys2Proof.Machine

/-! ## BIN PUT (R32–R35) -/

/-- The operands of a BIN PUT. -/
structure BinPut where
  binId : Word32
  kind : BinKind
  round : Option (Fin 64)
  profile : Fin 16
  reset : Bool
  deriving DecidableEq, Repr

/-- The bin ID of a table request; 0 and FFFFFFFFh are out of range (R35–R37). -/
def binId? (a b c d : Byte) : Option Word32 :=
  if word32 a b c d = 0#32 ∨ word32 a b c d = 0xFFFFFFFF#32 then none else some (word32 a b c d)

/-- The operands of a BIN PUT, if they are in range (R35). -/
def binPutOperands (a b c d kind round profile reset : Byte) : Option BinPut :=
  match binId? a b c d, binKind? kind, roundOrNone? round, index? 16 profile, yesNo? reset with
  | some id, some k, some q, some p, some y => some ⟨id, k, q, p, y⟩
  | _, _, _, _, _ => none

/-- The contents of a new or reloaded record (R32, R34). -/
def newRecord (o : BinPut) (epoch : Word32) : BinRecord where
  binId := o.binId
  kind := o.kind
  round := o.round
  profile := o.profile
  state := .unseen
  fill := none
  lastSeq := none
  heardEpoch := epoch
  blankUntil := none
  crossing := none
  silent := false
  heat := false
  tamper := false
  lowBattery := false
  placement := .none
  lastLane := none
  lastSignal := none
  battery := none
  applied := 0
  refused := 0

/-- The data of an OK to BIN PUT: slot, outcome, placement. -/
def binPutData (slot : Nat) (outcome : Byte) (p : Placement) : List Byte := be16 slot ++ [outcome, p.code]

/-- Insertion under R28; without a usable slot TABLE_FULL and no change. -/
def insertBin (s : State) (r : Request) (o : BinPut) : State :=
  match usableSlot s.table o.binId with
  | some i => reply (s.writeRecord i (newRecord o s.time.epoch)) r .ok (binPutData i 1 .none)
  | none => reply s r .tableFull []

/-- The class in which a bin moved to a new round is placed; none for no placement (R33). -/
def moveClass (p : Profile) (x : BinRecord) : Option EntryClass :=
  match x.state with
  | .urgent => some .urgent
  | .due => some .due
  | _ => if x.silent && p.checkOnSilence then some .check else none

/-- Step 3 of R33: the moved bin is placed in its new round, if that is not NONE and its state calls for it; the
record with its placement, and whether the placement failed. -/
def placeMoved (s : State) (i : Nat) (x : BinRecord) : State × BinRecord × Bool :=
  match x.round, moveClass (Vec.get s.profiles x.profile) x with
  | some _, some c =>
    let done := place s i x c
    (done.1, { x with placement := done.2.placement x.placement }, decide (done.2 = .failed))
  | _, _ => (s, x, false)

/-- The record as steps 1 and 2 of R33 leave it. -/
def reconfigure (x : BinRecord) (o : BinPut) : BinRecord :=
  { x with
    kind := o.kind, round := o.round, profile := o.profile,
    placement := if o.round = x.round then x.placement else .none }

/-- The update of a found record, up to its last write; the record as it stands then, and whether a placement failed
(R33). The Withdraw and the Place of a move are two operations, and the events given are taken between them (R107,
notes/assumptions/21.md). -/
def updateBin (s : State) (i : Nat) (x : BinRecord) (o : BinPut) (between : List SheetEvent) :
    State × BinRecord × Bool :=
  if o.round = x.round then (s, reconfigure x o, false)
  else placeMoved (between.foldl takeSheetEvent (detach s i .withdrawn)) i (reconfigure x o)

/-- The slot whose failed check code stopped the part, while it is STOPPED (R75). -/
def State.failedSlot (s : State) : Option Nat := if s.isStopped then s.cond.latestSlot else none

/-- A BIN PUT on a found record, reset option no (R33). The claim on a displaced bin's slot is part of the update claim's
work (R38, R107): where it meets a failed check code, R24 applies to that slot, the record is not updated, and the
request is answered STOPPED (R35); the sheets then stand as the table does, as if neither operation of the move had been
made (notes/assumptions/14.md). -/
def updateRequest (s : State) (r : Request) (i : Nat) (x : BinRecord) (o : BinPut) (between : List SheetEvent) :
    State :=
  let done := updateBin s i x o between
  match done.1.failedSlot with
  | some slot => reply (storeError (between.foldl takeSheetEvent s) slot) r .stopped []
  | none =>
    let s := done.1.writeRecord i done.2.1
    let s := if done.2.2 then raiseT s .placeFail (.bin x.binId) else s
    reply s r .ok (binPutData i 2 done.2.1.placement)

/-- A BIN PUT on a found record, reset option yes (R34). -/
def reloadRequest (s : State) (r : Request) (i : Nat) (o : BinPut) : State :=
  reply ((detach s i .withdrawn).writeRecord i (newRecord o s.time.epoch)) r .ok (binPutData i 3 .none)

/-- BIN PUT with operands in range: the claim (R32–R35). -/
def putBin (s : State) (r : Request) (o : BinPut) (between : List SheetEvent) : State :=
  match lookup s.table o.binId with
  | .notFound => insertBin s r o
  | .error slot => reply (storeError s slot) r .stopped []
  | .found i x => if o.reset then reloadRequest s r i o else updateRequest s r i x o between

/-- BIN PUT (R32–R35). -/
def binPutRequest (between : List SheetEvent) (r : Request) (s : State) : State :=
  match r.operands with
  | [a, b, c, d, kind, round, profile, reset] =>
    if s.isStopped then reply s r .stopped []
    else
      match binPutOperands a b c d kind round profile reset with
      | some o => putBin s r o between
      | none => reply s r .range []
  | _ => reply s r .badRequest []

/-- BIN PUT, code 20h. -/
def execBinPut (s : State) (between : List SheetEvent := []) : Result := onRequest s 0x20 (binPutRequest between)

/-! ## BIN GET and BIN DROP (R36, R37) -/

/-- BIN GET with an ID in range (R36). -/
def getBin (s : State) (r : Request) (id : Word32) : State :=
  match lookup s.table id with
  | .notFound => reply s r .notFound []
  | .error slot => reply (storeError s slot) r .stopped []
  | .found i x => reply s r .ok (be16 i ++ byte (probeDistance id i) :: x.bytes)

/-- BIN GET (R36). -/
def binGetRequest (r : Request) (s : State) : State :=
  match r.operands with
  | [a, b, c, d] =>
    match binId? a b c d with
    | some id => getBin s r id
    | none => reply s r .range []
  | _ => reply s r .badRequest []

/-- BIN GET, code 21h. -/
def execBinGet (s : State) : Result := onRequest s 0x21 binGetRequest

/-- The frame in flight loses the record it found: slot `i` has been dropped (R39). -/
def markDropped (s : State) (i : Nat) : State :=
  s.setIntake { s.intake with
    inFlight := s.intake.inFlight.map fun x => if x.slot = i then { x with dropped := true } else x }

/-- Deletion of the record in slot `i` (R29). -/
def dropSlot (s : State) (i : Nat) : State :=
  let s := detach s i .withdrawn
  markDropped (s.setTable (s.table.put i .tombstone)) i

/-- BIN DROP with an ID in range (R37). -/
def dropBin (s : State) (r : Request) (id : Word32) : State :=
  match lookup s.table id with
  | .notFound => reply s r .notFound []
  | .error slot => reply (storeError s slot) r .stopped []
  | .found i _ => reply (dropSlot s i) r .ok (be16 i)

/-- BIN DROP (R37). -/
def binDropRequest (r : Request) (s : State) : State :=
  match r.operands with
  | [a, b, c, d] =>
    if s.isStopped then reply s r .stopped []
    else
      match binId? a b c d with
      | some id => dropBin s r id
      | none => reply s r .range []
  | _ => reply s r .badRequest []

/-- BIN DROP, code 22h. -/
def execBinDrop (s : State) : Result := onRequest s 0x22 binDropRequest

/-! ## TABLE READ (R31) -/

/-- The probe distance of a listed slot; 0 for one that is not LIVE. -/
def liveDistance (p : Nat × Slot) : Nat :=
  match p.2 with
  | .live r _ => probeDistance r.binId p.1
  | _ => 0

/-- The sum of the probe distances of all LIVE slots (R31). -/
def BinTable.distanceSum (t : BinTable) : Nat := (t.map liveDistance).sum

/-- The largest probe distance of any LIVE slot (R31). -/
def BinTable.distanceMax (t : BinTable) : Nat := (t.map liveDistance).foldl max 0

/-- The four slot counts and the two probe-distance figures, as TABLE READ carries them. -/
def BinTable.figures (t : BinTable) : List Byte :=
  be16 t.emptyCount ++ be16 (t.count Slot.isLive) ++ be16 (t.count Slot.isTombstone) ++
    be16 (t.count Slot.isDamaged) ++ be32 t.distanceSum ++ [byte t.distanceMax]

/-- The 64 slots from a start slot, 8191 followed by 0. -/
def readRange (start : Nat) : List Nat := (List.range 64).map (probeSlot start)

/-- A slot is LIVE and its check code fails (R24). -/
def Slot.fails : Slot → Bool
  | .live _ diff => decide (diff ≠ 0)
  | _ => false

/-- TABLE READ (R31). A failed verification ends the claim (R24). Where several of the 64 slots fail, R31 gives no order
of verifying: that the first from the start slot is found is the model's choice (notes/assumptions/28.md). -/
def tableReadRequest (r : Request) (s : State) : State :=
  match r.operands with
  | [h, l] =>
    if 8191 < num16 h l then reply s r .range []
    else
      match (readRange (num16 h l)).find? fun i => (s.table.get i).fails with
      | some slot => reply (storeError s slot) r .stopped []
      | none =>
        reply s r .ok
          (s.table.figures ++ (readRange (num16 h l)).flatMap fun i => Slot.bytes i (s.table.get i))
  | _ => reply s r .badRequest []

/-- TABLE READ, code 23h. -/
def execTableRead (s : State) : Result := onRequest s 0x23 tableReadRequest

end Sys2Proof.Machine
end

