-- ==== Sys2Proof/Machine/Time.lean ====
section
/-! DEFINITION. The Time Base (chapter 5): TICK, EPOCH_END, MINUTE_CHANGE, CUTOFF_EVENT, CLOCK SET, TIME GET and the
settings EPOCH_PERIOD and SWEEP_INTERVAL. -/

namespace Sys2Proof.Machine

/-! ## The epoch end and the postscaler (R86, R90) -/

/-- An epoch end is counted by the postscaler: with interval 0 nothing; else the count advances, and at the interval a
trigger is handed over and the count is 0 (R90). -/
def TimeBase.countEpochEnd (t : TimeBase) : TimeBase :=
  if t.interval = 0 then t
  else if t.interval ≤ t.postCount + 1 then { t with postCount := 0, triggersOwed := t.triggersOwed + 1 }
  else { t with postCount := t.postCount + 1 }

/-- The Epoch Counter takes the epoch end that a tick made: the number advances, the elapsed count is 0, and the
postscaler takes the end (R86). -/
def TimeBase.endEpoch (t : TimeBase) : TimeBase :=
  if t.epochEndOwed then
    { t with epoch := t.epoch + 1, elapsed := 0, epochEndOwed := false }.countEpochEnd
  else t

/-- EPOCH_END (R86). -/
def execEpochEnd (s : State) : Result := event s fun s => s.setTime s.time.endEpoch

/-! ## The tick (R84, R85) -/

/-- The entries older than the dedup hold leave the window (R16). -/
def Intake.age (x : Intake) (tick : Word32) : Intake :=
  { x with window := x.window.filter fun e => decide ((tick - e.arrivalTick).toNat ≤ x.dedupHold) }

/-- A port reads a side, so that its draw timer runs (R151). -/
def PortState.timed : PortState → Bool
  | .unbound => false
  | .waiting _ => false
  | .reading _ => true
  | .exhausted _ => true

/-- A tick at a port's draw timer: the idle count of a port in READING or EXHAUSTED advances and is compared with the
timeout. An expiry found is handed over; while it stands untaken the timer has expired and does not advance (R151,
R152). -/
def Port.age (timeout : Nat) (p : Port) : Port :=
  if p.state.timed ∧ timeout ≠ 0 ∧ p.expiryOwed = false then
    { p with idle := p.idle + 1, expiryOwed := decide (timeout ≤ p.idle + 1) }
  else p

/-- A tick at the Epoch Counter: the elapsed count advances and is compared with the period (R86). -/
def TimeBase.advanceEpoch (t : TimeBase) : TimeBase :=
  { t with elapsed := t.elapsed + 1, epochEndOwed := decide (t.period ≤ t.elapsed + 1) }

/-- A minute change: the minute, and at midnight the day, advance, and the compare of R93 is owed (R92). -/
def TimeBase.advanceMinute (t : TimeBase) : TimeBase :=
  let m := if t.minute + 1 < 1440 then t.minute + 1 else 0
  let d := if t.minute + 1 < 1440 then t.day else if t.day + 1 < 65536 then t.day + 1 else 0
  { t with second := 0, minute := m, day := d, minuteChangesOwed := t.minuteChangesOwed ++ [(m, d)] }

/-- A tick at the Day Clock (R92). -/
def TimeBase.advanceClock (t : TimeBase) : TimeBase :=
  if t.second + 1 < 60 then { t with second := t.second + 1 } else t.advanceMinute

/-- A tick at the Time Base. The epoch end of an earlier tick that is still untaken comes first (notes/assumptions/6.md);
the tick counter advances before the holders act (R85). -/
def TimeBase.advance (t : TimeBase) : TimeBase :=
  { t.endEpoch with tick := t.endEpoch.tick + 1 }.advanceEpoch.advanceClock

/-- A tick with the storage failures of its second (R24, R85). -/
def tickAll (failed : List (Nat × Word16)) (s : State) : State :=
  let s := s.setTime s.time.advance
  let s := s.setIntake (s.intake.age s.time.tick)
  let s := s.setPorts (Vec.map (Port.age s.drawTimeout) s.ports)
  s.setTable (s.table.fail failed)

/-- TICK (R85). -/
def execTick (failed : List (Nat × Word16)) (s : State) : Result := event s (tickAll failed)

/-! ## Minute changes and cut-off events (R93, R122) -/

/-- The round has its cut-off at this minute of this day (R93). -/
def Round.dueAt (x : Round) (minute day : Nat) : Bool :=
  x.enabled && decide (x.cutoffMinute = minute) && decide (day % x.postscaler = x.phase)

/-- The compare of the oldest minute change that is owed, with the rounds' records as they stand (R93, R94). -/
def compareMinute (s : State) : State :=
  match s.time.minuteChangesOwed with
  | (m, d) :: rest =>
    s.setTime { s.time with
      minuteChangesOwed := rest,
      cutoffsOwed := s.time.cutoffsOwed ++ allRounds.filter fun r => (s.round r).dueAt m d }
  | [] => s

/-- MINUTE_CHANGE (R93). -/
def execMinuteChange (s : State) : Result := event s compareMinute

/-- CUTOFF_EVENT (R122). -/
def execCutoffEvent (round : Nat) (s : State) : Result :=
  if h : round < 64 then event s fun s => takeCutoff s ⟨round, h⟩ else .fault .noSuchRound

/-! ## CLOCK SET and TIME GET (R95, R97) -/

/-- CLOCK SET (R95). -/
def clockSetRequest (r : Request) (s : State) : State :=
  match r.operands with
  | [m0, m1, d0, d1] =>
    if 1439 < num16 m0 m1 then reply s r .range []
    else
      reply (s.setTime { s.time with second := 0, minute := num16 m0 m1, day := num16 d0 d1 }) r .ok [m0, m1, d0, d1]
  | _ => reply s r .badRequest []

/-- CLOCK SET, code 50h. -/
def execClockSet (s : State) : Result := onRequest s 0x50 clockSetRequest

/-- The data of TIME GET (section 10.8, Response data). -/
def TimeBase.bytes (t : TimeBase) : List Byte :=
  be32 t.tick.toNat ++ be32 t.epoch.toNat ++ be16 t.elapsed ++ be16 t.period ++
    [byte t.interval, byte t.postCount, byte t.second] ++ be16 t.minute ++ be16 t.day

/-- TIME GET (R97): the last tick whole. An epoch end of that tick that is still owed is taken by it, so that no later
reader sees an earlier epoch (R85, R86, notes/assumptions/6.md). -/
def timeGetRequest (r : Request) (s : State) : State :=
  match r.operands with
  | [] => reply (s.setTime s.time.endEpoch) r .ok s.time.endEpoch.bytes
  | _ => reply s r .badRequest []

/-- TIME GET, code 51h. -/
def execTimeGet (s : State) : Result := onRequest s 0x51 timeGetRequest

/-! ## Settings (R88, R91) -/

/-- SETTING PUT of EPOCH_PERIOD (R88). -/
def epochPeriodSetting (r : Request) (value : Nat) (s : State) : State :=
  if 3600 < value then reply s r .range []
  else settingStored (s.setTime { s.time with period := max 10 value }) r 3 (max 10 value)

/-- SETTING PUT of EPOCH_PERIOD, item 03h. -/
def execEpochPeriod (s : State) : Result := onSetting s 3 epochPeriodSetting

/-- SETTING PUT of SWEEP_INTERVAL (R91). -/
def sweepIntervalSetting (r : Request) (value : Nat) (s : State) : State :=
  if 16 < value then reply s r .range []
  else settingStored (s.setTime { s.time with interval := value, postCount := 0 }) r 4 value

/-- SETTING PUT of SWEEP_INTERVAL, item 04h. -/
def execSweepInterval (s : State) : Result := onSetting s 4 sweepIntervalSetting

end Sys2Proof.Machine
end

