-- ==== Sys2Proof/WellFormed.lean ====
section
/-! DEFINITION. The checks on a command's operands: it names a lane, a round, a port and slots the part has, and
says no more than the event it stands for can be. -/

namespace Sys2Proof

/-- A frame found bad before its last CRC byte really is bad there (R175). -/
def BadCause.wellFormed : BadCause → Bool
  | .typeByte b => b != 1#8
  | .bodyLength n => decide (Config.bodyLimit < n) && decide (n < 65536)
  | .missingStop => true

/-- An event for the Sheet Builder names a round or a port the part has. -/
def SheetEvent.wellFormed : SheetEvent → Bool
  | .cutoff round => decide (round < 64)
  | .expiry port => decide (port < 4)

/-- What falls between the two operations of an apply claim names a round and a port the part has. -/
def Between.wellFormed : Between → Bool
  | .event e => e.wellFormed
  | .requestTake | .sheetRequest | .statusRead _ => true

/-- The operands of a command are ones the part's events can have. -/
def Instr.wellFormed : Instr → Bool
  | .laneFrameEnd lane _ => decide (lane < 4)
  | .applyClaim between => between.all Between.wellFormed
  | .binPut between => between.all SheetEvent.wellFormed
  | .tick failed => failed.all fun p => decide (p.1 < Config.slotCount)
  | .cutoffEvent round => decide (round < 64)
  | .drawTimerExpiry port => decide (port < 4)
  | .linkFrameReceived body _ => decide (body.length ≤ Config.bodyLimit)
  | .restart steps => decide (steps ≤ 7)
  | .rstRelease _ asserted => asserted.all fun n => decide (n < 4)
  | .badFrameBeforeCrc cause => cause.wellFormed
  | .frameTake | .epochEnd | .sweepTrigger | .minuteChange | .sweepVisit => true
  | .linkIdleTimeout _ | .requestTake | .unknownRequest | .uplinkFrameSent | .noticeBuild => true
  | .hold | .resume | .step | .windowRead | .binGet | .binDrop | .tableRead => true
  | .profilePut | .profileGet | .bind | .unbind | .draw | .rewind | .release | .portGet => true
  | .clockSet | .timeGet | .rulePut | .ruleGet | .maskPut | .conditionRead => true
  | .roundPut | .roundGet | .cutoffNow | .sweep | .sweepAbort | .sweepReport => true
  | .status _ | .counters | .laneEnable | .dedupHold | .epochPeriod | .sweepInterval => true
  | .drawIdleLimit | .settingGet | .noticeEnable | .noticeClear | .rstAssert => true
  | .settingPutUnknownItem => true

end Sys2Proof
end

