-- ==== Sys2Proof/Machine/Link.lean ====
section
/-! DEFINITION. The planner link and its queues, the notices, the management requests, RESTART and RST# (chapters 10
and 11). -/

namespace Sys2Proof.Machine

/-! ## Downlink frames (R175, R177) -/

/-- A bad frame is counted (R175). -/
def countBadFrame (s : State) : State := s.setLink { s.link with badFrames := s.link.badFrames + 1 }

/-- A frame is found bad before its last CRC byte: counted, and the receiver discards what follows (R175). -/
def discardFrame (s : State) : State :=
  s.setLink { s.link with badFrames := s.link.badFrames + 1, rx := .discarding }

/-- A good frame is offered to the Downlink Request Queue: it enters behind the others, or is discarded and counted
with 8 waiting (R177). -/
def offerRequest (s : State) (r : Request) : State :=
  if s.link.downlink.length < Config.downlinkCapacity then
    s.setLink { s.link with downlink := s.link.downlink ++ [r] }
  else s.setLink { s.link with droppedRequests := s.link.droppedRequests + 1 }

/-- What a link frame's CRC covers: the type byte, the length bytes and the body (section 10.1, R190). -/
def linkFrame (type : Byte) (body : List Byte) : List Byte := type :: (be16 body.length ++ body)

/-- The CRC of a downlink frame, whose type byte is 01h (section 10.1). -/
def linkCrc (body : List Byte) : Word16 := crc16 (linkFrame 1 body)

/-- A frame of type 01h is complete at its last CRC byte (R175): a missing stop bit in that byte makes it bad, as a
wrong CRC does, and nothing follows to discard. A receiver that discards takes no frame. -/
def receiveFrame (body : List Byte) (crc : Option Word16) (s : State) : State :=
  match s.link.rx with
  | .discarding => s
  | .waiting =>
    if Config.bodyLimit < body.length then discardFrame s
    else if crc ≠ some (linkCrc body) then countBadFrame s
    else
      match body with
      | code :: h :: l :: operands => offerRequest s ⟨code, BitVec.ofNat 16 (num16 h l), operands⟩
      | _ => countBadFrame s

/-- LINK_FRAME_RECEIVED (R175). -/
def execLinkFrameReceived (body : List Byte) (crc : Option Word16) (s : State) : Result :=
  event s (receiveFrame body crc)

/-- The line has been idle for 10 character times: an incomplete frame is bad, a discarding receiver waits again
(R175). -/
def idleTimeout (incomplete : Bool) (s : State) : State :=
  match s.link.rx with
  | .discarding => s.setLink { s.link with rx := .waiting }
  | .waiting => if incomplete then countBadFrame s else s

/-- LINK_IDLE_TIMEOUT (R175). -/
def execLinkIdleTimeout (incomplete : Bool) (s : State) : Result := event s (idleTimeout incomplete)

/-- A downlink frame is found bad before its last CRC byte (R175). A receiver that discards finds no frame. -/
def badFrame (cause : BadCause) (s : State) : State :=
  match s.link.rx with
  | .discarding => s
  | .waiting => if cause.wellFormed then discardFrame s else s

/-- BAD_FRAME_BEFORE_CRC (R175). -/
def execBadFrameBeforeCrc (cause : BadCause) (s : State) : Result := event s (badFrame cause)

/-! ## The request handler (R178, R179) -/

/-- REQUEST_TAKE (R178). -/
def execRequestTake (s : State) : Result := event s takeRequest

/-- A request of an unknown code is answered BAD_REQUEST (R179). -/
def answerUnknown (s : State) : State :=
  match s.link.handler with
  | .taken r => if operandLength r.code = none then reply s r .badRequest [] else s
  | _ => s

/-- UNKNOWN_REQUEST (R179). -/
def execUnknownRequest (s : State) : Result := event s answerUnknown

/-! ## The Uplink Queue (R176, R182) -/

/-- The type byte of an uplink frame (section 10.8, Link frame). -/
def FrameKind.code : FrameKind → Byte
  | .response => 0x81
  | .notice => 0x82
  | .relay => 0x83

/-- The bytes of an uplink frame on PL_TXD: type, length, body and CRC (section 10.8, Link frame). -/
def UplinkFrame.bytes (f : UplinkFrame) : List Byte :=
  linkFrame f.kind.code f.body ++ be16 (crc16 (linkFrame f.kind.code f.body)).toNat

/-- The bytes of the whole frame that last left PL_TXD (R176). How many bytes of a frame that RST# cut off have left it
is not told (R191). -/
def TxOut.bytes : TxOut → Option (List Byte)
  | .nothing => some []
  | .whole f => some f.bytes
  | .cutOff _ => none

/-- The last byte of the frame at the head has been sent: it leaves, and a relay is counted (R176). -/
def frameSent (s : State) : State :=
  match s.link.uplink with
  | [] => s
  | f :: rest =>
    let n := if f.kind = .relay then s.link.relaysSent + 1 else s.link.relaysSent
    (s.setLink { s.link with uplink := rest, relaysSent := n }).setTxOut (.whole f)

/-- UPLINK_FRAME_SENT (R176). -/
def execUplinkFrameSent (s : State) : Result := event s frameSent

/-- The notice kind of a status (section 10.8, Notice body). -/
def StatusId.code : StatusId → Byte
  | .round _ .ready => 1
  | .round _ .emptied => 2
  | .round _ .late => 3
  | .cond _ => 4
  | .held => 5
  | .sweepDone => 6
  | .stopped => 7

/-- The detail of a notice. The detail of a HELD notice built while the status holds no cause is free
(notes/assumptions/15.md). -/
def State.noticeDetail (s : State) : StatusId → Byte
  | .round r _ => byte r.val
  | .cond k => byte k.idx.val
  | .held => (s.notices.heldCause.map Cause.code).getD (Config.clearedHeldDetail s.time.tick s.intake.taken)
  | .sweepDone => 0
  | .stopped => 0

/-- The subject of a notice: a condition's latest subject, the slot of STOPPED, 0 otherwise. -/
def Notices.subject (n : Notices) : StatusId → List Byte
  | .cond k => subjectBytes (Vec.get n.conds k.idx).subject
  | .stopped => be32 (n.stoppedSlot.getD 0)
  | _ => be32 0

/-- The count of a notice: a condition's since-count, 0 otherwise. -/
def Notices.sinceCount (n : Notices) : StatusId → Nat
  | .cond k => (Vec.get n.conds k.idx).since.toNat
  | _ => 0

/-- The notice of a status as it stands, with the current epoch (R69, R182). -/
def noticeFrame (s : State) (i : StatusId) : UplinkFrame :=
  ⟨.notice, [i.code, s.noticeDetail i] ++ s.notices.subject i ++ be32 (s.notices.sinceCount i) ++
    be32 s.time.epoch.toNat⟩

/-- The first status of the notice list is built into a free place; the status stays set (R182). -/
def buildNotice (s : State) : State :=
  match s.notices.list with
  | [] => s
  | i :: rest =>
    if 1 ≤ s.link.freePlaces then
      (s.setLink { s.link with uplink := s.link.uplink ++ [noticeFrame s i] }).setNotices { s.notices with list := rest }
    else s

/-- NOTICE_BUILD (R182). -/
def execNoticeBuild (s : State) : Result := event s buildNotice

/-! ## COUNTERS (R186) -/

/-- A lane's three counters. -/
def Lane.bytes (l : Lane) : List Byte := be32 l.received.toNat ++ be32 l.dropped.toNat ++ be32 l.lost.toNat

/-- The data of COUNTERS (section 10.8, Response data). -/
def countersData (s : State) : List Byte :=
  (allLanes.flatMap fun n => (s.lane n).bytes) ++ be32 s.link.badFrames.toNat ++ be32 s.link.droppedRequests.toNat ++
    be32 s.link.relayLost.toNat ++ be32 s.link.relaysSent.toNat ++ be32 s.emptyCutoffs.toNat ++
    be32 s.sweep.overlaps.toNat

/-- A lane's three counters set to 0. -/
def Lane.zero (l : Lane) : Lane := { l with received := 0, dropped := 0, lost := 0 }

/-- The link's four counters set to 0. -/
def Link.zero (l : Link) : Link := { l with badFrames := 0, droppedRequests := 0, relayLost := 0, relaysSent := 0 }

/-- Every counter of R186 set to 0. -/
def zeroCounters (s : State) : State :=
  let s := s.setLanes (Vec.map Lane.zero s.lanes)
  let s := s.setLink s.link.zero
  (s.setEmptyCutoffs 0).setSweep { s.sweep with overlaps := 0 }

/-- COUNTERS (R186). -/
def countersRequest (r : Request) (s : State) : State :=
  match r.operands with
  | [clear] =>
    match yesNo? clear with
    | some true => reply (zeroCounters s) r .ok (countersData s)
    | some false => reply s r .ok (countersData s)
    | none => reply s r .range []
  | _ => reply s r .badRequest []

/-- COUNTERS, code 91h. -/
def execCounters (s : State) : Result := onRequest s 0x91 countersRequest

/-! ## Settings (R187) -/

/-- The value of LANE_ENABLE from the four lane enables. -/
def laneEnableValue (s : State) : Nat := (bits (allLanes.map fun n => (s.lane n).enabled)).toNat

/-- The value of a setting by its item code; none for an unknown item (R187). -/
def settingValue (s : State) (item : Byte) : Option Nat :=
  match item.toNat with
  | 1 => some (laneEnableValue s)
  | 2 => some s.intake.dedupHold
  | 3 => some s.time.period
  | 4 => some s.time.interval
  | 5 => some s.drawTimeout
  | _ => none

/-- SETTING GET (R187). -/
def settingGetRequest (r : Request) (s : State) : State :=
  match r.operands with
  | [item] =>
    match settingValue s item with
    | some v => reply s r .ok (item :: be16 v)
    | none => reply s r .range []
  | _ => reply s r .badRequest []

/-- SETTING GET, code 93h. -/
def execSettingGet (s : State) : Result := onRequest s 0x93 settingGetRequest

/-- SETTING PUT of an unknown item (R187). -/
def unknownItemRequest (r : Request) (s : State) : State :=
  match r.operands with
  | [item, _, _] => if settingValue s item = none then reply s r .range [] else s
  | _ => s

/-- SETTING PUT of an unknown item, code 92h. -/
def execSettingPutUnknownItem (s : State) : Result := onRequest s 0x92 unknownItemRequest

/-! ## NOTICE ENABLE and NOTICE CLEAR (R183, R184) -/

/-- The three statuses of a round, with the flags of a NOTICE ENABLE. -/
def roundFlagsOf (f : Bool × Bool × Bool) (q : Fin 64) : List (StatusId × Bool) :=
  [(.round q .ready, f.1), (.round q .emptied, f.2.1), (.round q .late, f.2.2)]

/-- The statuses and enables that a NOTICE ENABLE names, in order; none when its operands are out of range (R183). -/
def enablesNamed (scope round flags : Byte) : Option (List (StatusId × Bool)) :=
  match flags3? flags with
  | none => none
  | some f =>
    match scope.toNat with
    | 0 => (index? 64 round).map (roundFlagsOf f)
    | 1 => some (allRounds.flatMap (roundFlagsOf f))
    | 2 => some [(.held, f.1), (.sweepDone, f.2.1), (.stopped, f.2.2)]
    | _ => none

/-- Enables are written in the given order (R183). -/
def writeEnables (n : Notices) (l : List (StatusId × Bool)) : Notices := l.foldl (fun n x => n.enable x.1 x.2) n

/-- NOTICE ENABLE (R183). -/
def noticeEnableRequest (r : Request) (s : State) : State :=
  match r.operands with
  | [scope, round, flags] =>
    match enablesNamed scope round flags with
    | some l => reply (s.setNotices (writeEnables s.notices l)) r .ok [scope, round, flags]
    | none => reply s r .range []
  | _ => reply s r .badRequest []

/-- NOTICE ENABLE, code 94h. -/
def execNoticeEnable (s : State) : Result := onRequest s 0x94 noticeEnableRequest

/-- The statuses that a NOTICE CLEAR names; none when its operands are out of range (R184). -/
def clearsNamed (scope sel status : Byte) : Option (List StatusId) :=
  match scope.toNat with
  | 0 =>
    match index? 64 sel, roundStatus? status with
    | some q, some w => some [.round q w]
    | _, _ => none
  | 1 => (index? 64 sel).map fun q => [.round q .ready, .round q .emptied, .round q .late]
  | 2 => (kind? sel).map fun k => [.cond k]
  | 3 => some (allKinds.map .cond)
  | 4 => (deviceStatus? status).map fun i => [i]
  | _ => none

/-- NOTICE CLEAR (R184). -/
def noticeClearRequest (r : Request) (s : State) : State :=
  match r.operands with
  | [scope, sel, status] =>
    match clearsNamed scope sel status with
    | some l => reply (s.setNotices (l.foldl Notices.clear s.notices)) r .ok [byte (l.countP s.notices.isSet)]
    | none => reply s r .range []
  | _ => reply s r .badRequest []

/-- NOTICE CLEAR, code 95h. -/
def execNoticeClear (s : State) : Result := onRequest s 0x95 noticeClearRequest

/-! ## RESTART (R188) -/

/-- A slot as RESTART leaves it (R41). -/
def Slot.restart : Slot → Slot
  | .empty => .empty
  | .tombstone => .tombstone
  | .damaged => .tombstone
  | .live r diff =>
    if diff ≠ 0 then .tombstone
    else if r.placement = .placed then .live { r with placement := .unplaced } 0
    else .live r 0

/-- The table as RESTART leaves it (R41). -/
def BinTable.restart (t : BinTable) : BinTable := t.map fun p => (p.1, p.2.restart)

/-- The LIVE slots whose check code fails (R41). -/
def BinTable.lost (t : BinTable) : Nat := t.count Slot.fails

/-- A round as RESTART leaves it (R121). -/
def Round.restart (x : Round) : Round :=
  { x with
    fillSide := .a, fill := [], otherState := .free, other := [], held := false, missed := 0, lastCutoff := none,
    bound := none, displaced := 0 }

/-- The handler goes on to the next step of a RESTART. -/
def setRestart (s : State) (tag : Word16) (done lost : Nat) : State :=
  s.setLink { s.link with handler := .restarting tag done lost }

/-- Step 1: a frame in flight is processed to its end (R13). -/
def restartIntakeEnd (s : State) : State :=
  match s.intake.inFlight with
  | some x => applyInFlight s x []
  | none => s

/-- Step 2: a running sweep ends ABORTED; the overlap count becomes 0 (R174). -/
def restartSweep (s : State) : State :=
  (endSweep s .aborted).setSweep { (endSweep s .aborted).sweep with overlaps := 0 }

/-- Step 3: the work of the Bin Table, the Sheet Builder and the draw ports, as one piece (R41, R121, R158). -/
def restartTable (s : State) : State :=
  let s := s.setTable s.table.restart
  let s := s.setRounds (Vec.map Round.restart s.rounds)
  (s.setFree Config.poolSize).setPorts (Vector.replicate 4 .powerOn)

/-- Step 4: the occurrence counters, the deferred counts and subjects, the latest slot (R83). -/
def restartConditions (s : State) : State :=
  s.setCond { s.cond.zeroCounts with deferred := Vector.replicate 18 ⟨0, none⟩, latestSlot := none }

/-- Step 5: the Intake Queue, the Duplicate Window and the lanes; intake enters HELD with cause RESTART, which sets no
HELD status (R7, R13). Since step 1 no frame is in flight. A HELD status still set keeps the cause it has until step 6
clears it: R7 would have it follow, section 10.8 says RESTART never appears in a notice (notes/assumptions/23.md). -/
def restartIntake (s : State) : State :=
  (s.setIntake { s.intake with
    state := .held .restart, queue := [], accepted := 0, taken := 0, inFlight := none, holdWaiting := none,
    window := [] }).setLanes
    (Vec.map Lane.zero s.lanes)

/-- A status cleared, its enable kept. -/
def Flag.clear (f : Flag) : Flag := { f with set := false }

/-- The Notice Unit as RESTART leaves it: every status clear and its data absent, the list empty, the enables kept
(R181, R182). -/
def Notices.restart (n : Notices) : Notices :=
  ⟨Vec.map (fun f => ⟨f.ready.clear, f.emptied.clear, f.late.clear⟩) n.rounds,
    Vector.replicate 18 ⟨false, none, 0⟩, n.held.clear, none, n.sweepDone.clear, n.stopped.clear, none, []⟩

/-- The link receiver after RESTART: waiting for a frame, or, if it was discarding, whichever of R175's and R189's
words the free choice gives (notes/assumptions/24.md). -/
def restartReceiver (tick : Word32) (rx : RxState) : RxState :=
  if Config.restartKeepsDiscarding tick then rx else .waiting

/-- Step 6: the statuses, the notice list, the link queues but for the frame being sent, and every counter of R186
(R181, R182, R188). Whether what the lanes have counted since step 5 is zeroed again is free
(notes/assumptions/8.md). -/
def restartLink (s : State) : State :=
  let t := zeroCounters (s.setNotices s.notices.restart)
  (t.setLink { t.link with
      rx := restartReceiver s.time.tick s.link.rx, uplink := s.link.uplink.take 1, downlink := [] }).setLanes
    (if Config.restartKeepsLaneCounts s.time.tick then s.lanes else t.lanes)

/-- The next step of the RESTART in hand (R188); the seventh answers it. -/
def restartStep (s : State) : State :=
  match s.link.handler with
  | .restarting tag 0 lost => setRestart (restartIntakeEnd s) tag 1 lost
  | .restarting tag 1 lost => setRestart (restartSweep s) tag 2 lost
  | .restarting tag 2 _ => setRestart (restartTable s) tag 3 s.table.lost
  | .restarting tag 3 lost => setRestart (restartConditions s) tag 4 lost
  | .restarting tag 4 lost => setRestart (restartIntake s) tag 5 lost
  | .restarting tag 5 lost => setRestart (restartLink s) tag 6 lost
  | .restarting tag _ lost => answer s 0x9F tag .ok (be16 lost ++ be16 (s.table.count Slot.isLive))
  | _ => s

/-- As many steps of the RESTART in hand as are asked for (notes/assumptions/8.md). -/
def restartSteps : Nat → State → State
  | 0, s => s
  | n + 1, s => restartSteps n (restartStep s)

/-- A RESTART request taken is begun: from here no frame is taken and no other request (R188). -/
def beginRestart (s : State) : State :=
  match s.link.handler with
  | .taken r => if r.code = 0x9F#8 then setRestart s r.tag 0 0 else s
  | _ => s

/-- RESTART, code 9Fh (R188): the work goes on by the number of steps given. -/
def execRestart (steps : Nat) (s : State) : Result := event s fun s => restartSteps steps (beginRestart s)

/-! ## RST# (R191, R192) -/

/-- What PL_TXD shows when RST# goes low: a frame being sent is cut off (R191). -/
def cutTx (s : State) : TxOut :=
  match s.link.uplink with
  | f :: _ => .cutOff f
  | [] => s.txOut

/-- RST_ASSERT (R191): every piece of state is given up. -/
def execRstAssert (s : State) : Result :=
  event s fun s => ((State.reset.setPending s.pending).setRstLow true).setTxOut (cutTx s)

/-- A lane at the release of RST#: blind to the assertion in progress, if there is one (R192). -/
def releasedLane (asserted : List Nat) (n : Fin 4) : Lane := { Lane.powerOn with blind := asserted.contains n.val }

/-- The part at the release of RST#: the power-on values, the strap as sampled (R191, R192). -/
def released (rateHigh : Bool) (asserted : List Nat) (s : State) : State :=
  (((State.reset.setPending s.pending).setTxOut s.txOut).setRateHigh rateHigh).setLanes
    (Vector.ofFn (releasedLane asserted))

/-- RST_RELEASE (R191): RST# that is high already is not released. -/
def execRstRelease (rateHigh : Bool) (asserted : List Nat) (s : State) : Result :=
  .next (if s.rstLow then released rateHigh asserted s else s)

end Sys2Proof.Machine
end

