-- ==== Sys2Proof/Machine/SweepEngine.lean ====
section
/-! DEFINITION. The Sweep Engine (chapter 9): SWEEP_TRIGGER, SWEEP_VISIT, SWEEP, SWEEP ABORT, SWEEP REPORT. -/

namespace Sys2Proof.Machine

/-! ## Starting (R159, R160) -/

/-- A sweep starts (R160). -/
def startSweep (s : State) : State :=
  s.setSweep ⟨true, 8191, some s.time.epoch, none, 0, 0, 0, 0, s.sweep.overlaps⟩

/-- The Sweep Engine skips a trigger: the part is STOPPED, or a RESTART has done the engine's own step and is not
answered yet (R160). -/
def State.skipsTrigger (s : State) : Bool :=
  s.isStopped ||
    match s.link.handler with
    | .restarting _ done _ => decide (2 ≤ done)
    | _ => false

/-- The Sweep Engine takes a trigger of the postscaler (R159); none is owed, nothing happens. -/
def takeTrigger (s : State) : State :=
  if s.time.triggersOwed = 0 then s
  else
    let s := s.setTime { s.time with triggersOwed := s.time.triggersOwed - 1 }
    if s.skipsTrigger then s
    else if s.sweep.running then s.setSweep { s.sweep with overlaps := s.sweep.overlaps + 1 }
    else startSweep s

/-- SWEEP_TRIGGER (R90). -/
def execSweepTrigger (s : State) : Result := event s takeTrigger

/-! ## The visit of a LIVE slot (R162–R165) -/

/-- The silence test finds the bin silent (R162). -/
def foundSilent (p : Profile) (epoch : Word32) (x : BinRecord) : Bool :=
  !x.silent && decide (p.silenceLimit ≤ (epoch - x.heardEpoch).toNat)

/-- What a visit asks of the Sheet Builder for its bin. -/
inductive VisitRequest where
  | place (c : EntryClass)
  | withdraw
  | nothing
  deriving DecidableEq, Repr

/-- The request of the retry (R164). -/
def retryRequest (p : Profile) (x : BinRecord) : VisitRequest :=
  if x.placement = .unplaced then
    match x.state with
    | .urgent => .place .urgent
    | .due => .place .due
    | _ => if x.silent && p.checkOnSilence then .place .check else .withdraw
  else .nothing

/-- The one request of a visit: the CHECK Place of a bin found silent, else the retry (R163, R164). -/
def visitRequest (p : Profile) (silenced : Bool) (x : BinRecord) : VisitRequest :=
  if silenced ∧ p.checkOnSilence = true ∧ x.state ≠ .due ∧ x.state ≠ .urgent ∧ x.round ≠ none then .place .check
  else retryRequest p x

/-- The report counts one more bin placed (R165). -/
def countPlaced (s : State) : State := s.setSweep { s.sweep with placed := s.sweep.placed + 1 }

/-- What the Sweep Engine does with the outcome of its Place (R165). -/
def afterPlace (s : State) (id : Word32) : PlaceOutcome → State
  | .added => countPlaced s
  | .failed => raiseT s .placeFail (.bin id)
  | _ => s

/-- The visit's request is made and the record written before the claim ends (R164, R165). -/
def makeVisitRequest (s : State) (i : Nat) (x : BinRecord) : VisitRequest → State
  | .place c =>
    let done := place s i x c
    afterPlace (done.1.writeRecord i { x with placement := done.2.placement x.placement }) x.binId done.2
  | .withdraw => (detach s i .withdrawn).writeRecord i { x with placement := .none }
  | .nothing => s.writeRecord i x

/-- A bin is found silent: its flag is set, it is counted, and SILENCE is raised (R162). -/
def silenceBin (s : State) (i : Nat) (x : BinRecord) : State :=
  let s := s.writeRecord i { x with silent := true }
  raiseT (s.setSweep { s.sweep with silenced := s.sweep.silenced + 1 }) .silence (.bin x.binId)

/-- The visit of a LIVE slot whose code verifies (R162–R165). -/
def visitRecord (s : State) (i : Nat) (x : BinRecord) : State :=
  let p := Vec.get s.profiles x.profile
  if foundSilent p s.time.epoch x then
    makeVisitRequest (silenceBin s i x) i { x with silent := true } (visitRequest p true { x with silent := true })
  else makeVisitRequest s i x (visitRequest p false x)

/-! ## The walk (R161, R166, R167) -/

/-- What a visit of slot `i` does to the slot, as the slot stands (R161, R166, R167). -/
def visitSlot (s : State) (i : Nat) : State :=
  match s.table.get i with
  | .live x diff => if diff ≠ 0 then storeError s i else visitRecord s i x
  | .tombstone =>
    if (s.table.get ((i + 1) % Config.slotCount)).isEmpty then
      (s.setTable (s.table.put i .empty)).setSweep { s.sweep with reclaimed := s.sweep.reclaimed + 1 }
    else s
  | .empty => s
  | .damaged => s

/-- The sweep ends DONE: IDLE, and the device SWEEP_DONE status is set (R161). -/
def finishSweep (s : State) : State :=
  (s.setSweep { s.sweep with running := false, endReason := some .done }).setNotices (s.notices.raise .sweepDone)

/-- The visit of slot `i` ends: counted, and the cursor is lowered; after slot 0, whatever the visit found, the sweep is
DONE (R161). A STOP of the visit ends a sweep early only before slot 0, between visits (R167, R168): in the visit of
slot 0 it comes to an IDLE engine and changes no end reason (R159, notes/assumptions/13.md). -/
def endVisit (s : State) (i : Nat) : State :=
  let s := s.setSweep { s.sweep with visited := s.sweep.visited + 1, cursor := i - 1 }
  if i = 0 then finishSweep s else s

/-- The visit of the slot under the cursor; an IDLE engine makes none. -/
def sweepVisit (s : State) : State :=
  if s.sweep.running then endVisit (visitSlot s s.sweep.cursor) s.sweep.cursor else s

/-- SWEEP_VISIT (R161). -/
def execSweepVisit (s : State) : Result := event s sweepVisit

/-! ## Sweep requests (R169–R171) -/

/-- SWEEP (R169). -/
def sweepRequest (r : Request) (s : State) : State :=
  match r.operands with
  | [] =>
    if s.isStopped then reply s r .stopped []
    else if s.sweep.running then reply s r .busy []
    else reply (startSweep s) r .ok (be32 s.time.epoch.toNat)
  | _ => reply s r .badRequest []

/-- SWEEP, code 80h. -/
def execSweep (s : State) : Result := onRequest s 0x80 sweepRequest

/-- SWEEP ABORT (R170). -/
def sweepAbortRequest (r : Request) (s : State) : State :=
  match r.operands with
  | [] => reply (endSweep s .aborted) r .ok (be16 s.sweep.cursor)
  | _ => reply s r .badRequest []

/-- SWEEP ABORT, code 81h. -/
def execSweepAbort (s : State) : Result := onRequest s 0x81 sweepAbortRequest

/-- The data of SWEEP REPORT (section 10.8, Response data). -/
def Sweep.bytes (w : Sweep) : List Byte :=
  [bits [w.startEpoch.isSome, w.endReason.isSome]] ++ epochBytes w.startEpoch ++ [endReasonCode w.endReason] ++
    be32 w.visited.toNat ++ be32 w.silenced.toNat ++ be32 w.placed.toNat ++ be32 w.reclaimed.toNat ++
    be32 w.overlaps.toNat ++ [yesNo w.running] ++ be16 w.cursor

/-- SWEEP REPORT (R171). -/
def sweepReportRequest (r : Request) (s : State) : State :=
  match r.operands with
  | [] => reply s r .ok s.sweep.bytes
  | _ => reply s r .badRequest []

/-- SWEEP REPORT, code 82h. -/
def execSweepReport (s : State) : Result := onRequest s 0x82 sweepReportRequest

end Sys2Proof.Machine
end

