-- ==== Sys2Proof/Machine/Dispatch.lean ====
section
/-! DEFINITION. The meaning of every command: one arm per constructor of Instr. -/

namespace Sys2Proof.Machine

/-- The effect of a command on everything but the queue of waiting commands. -/
def exec (i : Instr) (s : State) : Host.Outcome State Fault Refusal :=
  match i with
  | .laneFrameEnd lane bytes => Sys2Proof.Machine.execLaneFrameEnd lane bytes s
  | .frameTake => Sys2Proof.Machine.execFrameTake s
  | .applyClaim between => Sys2Proof.Machine.execApplyClaim between s
  | .tick failed => Sys2Proof.Machine.execTick failed s
  | .epochEnd => Sys2Proof.Machine.execEpochEnd s
  | .sweepTrigger => Sys2Proof.Machine.execSweepTrigger s
  | .minuteChange => Sys2Proof.Machine.execMinuteChange s
  | .cutoffEvent round => Sys2Proof.Machine.execCutoffEvent round s
  | .drawTimerExpiry port => Sys2Proof.Machine.execDrawTimerExpiry port s
  | .sweepVisit => Sys2Proof.Machine.execSweepVisit s
  | .linkFrameReceived body crc => Sys2Proof.Machine.execLinkFrameReceived body crc s
  | .linkIdleTimeout incomplete => Sys2Proof.Machine.execLinkIdleTimeout incomplete s
  | .requestTake => Sys2Proof.Machine.execRequestTake s
  | .unknownRequest => Sys2Proof.Machine.execUnknownRequest s
  | .uplinkFrameSent => Sys2Proof.Machine.execUplinkFrameSent s
  | .noticeBuild => Sys2Proof.Machine.execNoticeBuild s
  | .hold => Sys2Proof.Machine.execHold s
  | .resume => Sys2Proof.Machine.execResume s
  | .step => Sys2Proof.Machine.execStep s
  | .windowRead => Sys2Proof.Machine.execWindowRead s
  | .binPut between => Sys2Proof.Machine.execBinPut s between
  | .binGet => Sys2Proof.Machine.execBinGet s
  | .binDrop => Sys2Proof.Machine.execBinDrop s
  | .tableRead => Sys2Proof.Machine.execTableRead s
  | .profilePut => Sys2Proof.Machine.execProfilePut s
  | .profileGet => Sys2Proof.Machine.execProfileGet s
  | .bind => Sys2Proof.Machine.execBind s
  | .unbind => Sys2Proof.Machine.execUnbind s
  | .draw => Sys2Proof.Machine.execDraw s
  | .rewind => Sys2Proof.Machine.execRewind s
  | .release => Sys2Proof.Machine.execRelease s
  | .portGet => Sys2Proof.Machine.execPortGet s
  | .clockSet => Sys2Proof.Machine.execClockSet s
  | .timeGet => Sys2Proof.Machine.execTimeGet s
  | .rulePut => Sys2Proof.Machine.execRulePut s
  | .ruleGet => Sys2Proof.Machine.execRuleGet s
  | .maskPut => Sys2Proof.Machine.execMaskPut s
  | .conditionRead => Sys2Proof.Machine.execConditionRead s
  | .roundPut => Sys2Proof.Machine.execRoundPut s
  | .roundGet => Sys2Proof.Machine.execRoundGet s
  | .cutoffNow => Sys2Proof.Machine.execCutoffNow s
  | .sweep => Sys2Proof.Machine.execSweep s
  | .sweepAbort => Sys2Proof.Machine.execSweepAbort s
  | .sweepReport => Sys2Proof.Machine.execSweepReport s
  | .status items => Sys2Proof.Machine.execStatus s items
  | .counters => Sys2Proof.Machine.execCounters s
  | .laneEnable => Sys2Proof.Machine.execLaneEnable s
  | .dedupHold => Sys2Proof.Machine.execDedupHold s
  | .epochPeriod => Sys2Proof.Machine.execEpochPeriod s
  | .sweepInterval => Sys2Proof.Machine.execSweepInterval s
  | .drawIdleLimit => Sys2Proof.Machine.execDrawIdleLimit s
  | .settingGet => Sys2Proof.Machine.execSettingGet s
  | .noticeEnable => Sys2Proof.Machine.execNoticeEnable s
  | .noticeClear => Sys2Proof.Machine.execNoticeClear s
  | .restart steps => Sys2Proof.Machine.execRestart steps s
  | .rstAssert => Sys2Proof.Machine.execRstAssert s
  | .rstRelease rateHigh asserted => Sys2Proof.Machine.execRstRelease rateHigh asserted s
  | .badFrameBeforeCrc cause => Sys2Proof.Machine.execBadFrameBeforeCrc cause s
  | .settingPutUnknownItem => Sys2Proof.Machine.execSettingPutUnknownItem s

end Sys2Proof.Machine
end

