-- ==== Sys2Proof/Machine/Step.lean ====
section
/-! DEFINITION. One step of the part: the command at the front of the queue. -/

namespace Sys2Proof.Machine

/-- One step: the command at the front of the queue is taken and has its effect on the part with the rest of the
queue; with an empty queue the part idles (notes/assumptions/4.md). -/
def step (s : State) : Host.Outcome State Fault Refusal :=
  match s.pending with
  | [] => .next s
  | c :: rest => exec c (s.setPending rest)

/-- `s` with the command that a word spells put at the front of its queue; no word spells one
(notes/assumptions/18.md). -/
def State.withFetchWord (s : State) (nbits w : Nat) : State :=
  match decodeTableWord nbits w with
  | some c => s.setPending (c :: s.pending)
  | none => s

end Sys2Proof.Machine
end

