-- ==== Sys2Proof/Safety.lean ====
section
/-! DEFINITION. What claims speak of: a safe run, and the laws that the manual says its collections keep. Each law is
a statement about one state. -/

namespace Sys2Proof.Machine

/-! ## Runs -/

/-- The answer is a next state. -/
def Completes (x : Result) : Prop := ∃ t, x = .next t

/-- `n` steps from `s` all answer a next state. -/
def SafeFor : Nat → State → Prop
  | 0, _ => True
  | n + 1, s => ∃ t, step s = .next t ∧ SafeFor n t

/-- No number of steps from `s` ends in a fault or a refusal. -/
def Safe (s : State) : Prop := ∀ n, SafeFor n s

/-- A law is kept: every step that answers a next state leads from a state of the law to one of the law. -/
def Kept (law : State → Prop) : Prop := ∀ s t, law s → step s = .next t → law t

/-! ## The Bin Table -/

/-- The presence of a record's fields agrees with its state, and a stored fill is a percentage (R23, section 3.5). -/
def BinRecord.lawful (r : BinRecord) : Prop :=
  (r.blankUntil.isSome ↔ r.state = .blanked) ∧
  (r.crossing.isSome ↔ r.state = .due ∨ r.state = .urgent) ∧
  (r.lastSeq.isSome ↔ r.state ≠ .unseen) ∧ (r.lastLane.isSome ↔ r.state ≠ .unseen) ∧
  (r.lastSignal.isSome ↔ r.state ≠ .unseen) ∧ (r.battery.isSome ↔ r.state ≠ .unseen) ∧
  (r.state = .unseen → r.fill = none) ∧ (∀ f, r.fill = some f → f ≤ 100)

/-- Every record of the table has the fields its state calls for. -/
def RecordLaw (s : State) : Prop := ∀ i r d, (i, Slot.live r d) ∈ s.table → r.lawful

/-- A LIVE record lies within 24 probe positions of its home slot with no EMPTY slot before it, and no bin ID stands
in two LIVE slots (R26, R28). -/
def ProbeLaw (s : State) : Prop :=
  (∀ i r d, s.table.get i = .live r d → ∃ k, k < 24 ∧ i = probeSlot (home r.binId) k ∧
    ∀ j, j < k → s.table.get (probeSlot (home r.binId) j) ≠ .empty) ∧
  (∀ i j r r' d d', s.table.get i = .live r d → s.table.get j = .live r' d' → r.binId = r'.binId → i = j)

/-! ## Rounds, sides and the pool -/

/-- `a` may stand before `b` on a side: class order, and within a class the carried entries first (R104). -/
def mayPrecede (a b : Entry) : Prop :=
  a.cls.rank < b.cls.rank ∨ (a.cls.rank = b.cls.rank ∧ (b.carried = true → a.carried = true))

/-- A side in the order of R104. -/
def inOrder (l : List Entry) : Prop := l.Pairwise mayPrecede

/-- No entry of the side is marked. -/
def noneMarked (l : List Entry) : Prop := ∀ e ∈ l, e.mark = .none

/-- A round's settings are in the ranges of R99. -/
def Round.settingsLawful (x : Round) : Prop :=
  x.cutoffMinute ≤ 1439 ∧ 1 ≤ x.postscaler ∧ x.postscaler ≤ 7 ∧ x.phase < x.postscaler ∧ 1 ≤ x.cap ∧ x.cap ≤ 255

/-- A round's sides: both in order; no marks on FILL, FREE and SEALED sides; a FREE side is empty, and Held is set only
while the side that is not FILL is not FREE; neither side above the cap (R99, R101, R104, R116, R127). -/
def Round.lawful (x : Round) : Prop :=
  inOrder x.fill ∧ inOrder x.other ∧ noneMarked x.fill ∧ (x.otherState.removes = true → noneMarked x.other) ∧
  (x.otherState = .free → x.other = [] ∧ x.held = false) ∧ x.fill.length ≤ x.cap ∧ x.other.length ≤ x.cap ∧
  x.settingsLawful

/-- Every round is lawful. -/
def RoundLaw (s : State) : Prop := ∀ q, (s.round q).lawful

/-- The entries of a round, on either side. -/
def Round.entries (x : Round) : List Entry := x.fill ++ x.other

/-- Every entry of the pool, with the round on whose sides it stands. -/
def State.entries (s : State) : List (Fin 64 × Entry) :=
  allRounds.flatMap fun q => (s.round q).entries.map fun e => (q, e)

/-- The free slots of the pool and the entries on all sides are together 4096 (R103). -/
def PoolLaw (s : State) : Prop := s.free + s.entries.length = 4096

/-- A slot is named by at most one unmarked entry (R106). -/
def UnmarkedLaw (s : State) : Prop := ∀ i, s.entries.countP (fun x => x.2.unmarkedAt i) ≤ 1

/-- A bin has an unmarked entry exactly when its placement is PLACED; the entry names the bin's LIVE slot and carries
its ID, and stands on a side of its current round (R102, R106). -/
def PlacementLaw (s : State) : Prop :=
  (∀ i r d, s.table.get i = .live r d → r.placement = .placed → ∃ x ∈ s.entries, x.2.unmarkedAt i = true) ∧
  (∀ x ∈ s.entries, x.2.mark = .none → ∃ r d, s.table.get x.2.slot = .live r d ∧ r.placement = .placed ∧
    r.binId = x.2.binId ∧ r.round = some x.1)

/-! ## Draw ports -/

/-- The round a port is bound to. -/
def Port.boundRound (x : Port) : Option (Fin 64) := x.state.round

/-- A port's cursor and idle count agree with its state and the side it reads (R139, R151). -/
def portLawful (s : State) (p : Fin 4) : Prop :=
  match (s.port p).state with
  | .unbound => (s.port p).cursor = 0 ∧ (s.port p).idle = 0 ∧ (s.port p).expiryOwed = false
  | .waiting q =>
    (s.port p).cursor = 0 ∧ (s.port p).idle = 0 ∧ (s.port p).expiryOwed = false ∧ (s.round q).otherState = .free
  | .reading q => (s.port p).cursor < (s.round q).other.length ∧ (s.round q).otherState = .opened
  | .exhausted q => (s.port p).cursor = (s.round q).other.length ∧ (s.round q).otherState = .spent

/-- Ports and rounds name each other, every port agrees with the side it reads, and a side is OPEN or SPENT only while
a port reads it (R139). -/
def PortLaw (s : State) : Prop :=
  (∀ p q, (s.port p).boundRound = some q ↔ (s.round q).bound = some p) ∧ (∀ p, portLawful s p) ∧
  ∀ q, (s.round q).otherState = .opened ∨ (s.round q).otherState = .spent →
    ∃ p, (s.port p).state.reads = some q

/-! ## Intake, link, notices, sweep, time, settings -/

/-- The Intake Queue: at most 256 frames, as many as were accepted and not taken; the frame in flight is among them;
the Duplicate Window holds at most 128 entries, no two of one pair (section 1.5, R5, R6, R17). -/
def IntakeLaw (s : State) : Prop :=
  s.intake.queue.length ≤ 256 ∧ s.intake.accepted - s.intake.taken = BitVec.ofNat 32 s.intake.queue.length ∧
  (s.intake.inFlight.isSome → s.intake.queue ≠ []) ∧ s.intake.window.length ≤ 128 ∧
  (s.intake.window.map fun e => (e.binId, e.seq)).Nodup

/-- The link queues keep their capacities, the reserved place included (R177, R178, R180). -/
def LinkLaw (s : State) : Prop :=
  s.link.uplink.length + (if s.link.reserved then 1 else 0) ≤ 64 ∧ s.link.downlink.length ≤ 8

/-- The notice list names each status once, and only enabled ones; a status on it other than HELD is set; a set
HELD status holds a cause and a set STOPPED status a slot, and a clear one none (R181, R182). -/
def NoticeLaw (s : State) : Prop :=
  s.notices.list.Nodup ∧ (∀ i ∈ s.notices.list, s.notices.isEnabled i = true) ∧
  (∀ i ∈ s.notices.list, i ≠ .held → s.notices.isSet i = true) ∧
  s.notices.heldCause.isSome = s.notices.held.set ∧ s.notices.stoppedSlot.isSome = s.notices.stopped.set

/-- No sweep runs in STOPPED; a running sweep has no end reason and has visited the slots above its cursor (R159,
R161, R171). -/
def SweepLaw (s : State) : Prop :=
  (s.intake.state = .stopped → s.sweep.running = false) ∧ s.sweep.cursor ≤ 8191 ∧
  (s.sweep.running = true → s.sweep.endReason = none ∧ s.sweep.startEpoch.isSome ∧
    s.sweep.visited = BitVec.ofNat 32 (8191 - s.sweep.cursor))

/-- The clocks and the time settings are in their ranges (R86, R88, R90–R92). -/
def TimeLaw (s : State) : Prop :=
  s.time.second < 60 ∧ s.time.minute < 1440 ∧ s.time.day < 65536 ∧ 10 ≤ s.time.period ∧ s.time.period ≤ 3600 ∧
  s.time.elapsed ≤ 3600 ∧ (s.time.epochEndOwed = false → s.time.elapsed < 3600) ∧ s.time.interval ≤ 16 ∧
  (s.time.interval = 0 → s.time.postCount = 0) ∧ (s.time.interval ≠ 0 → s.time.postCount < s.time.interval)

/-- The other settings and the profiles are in their ranges (R16, R42, R153). -/
def SettingLaw (s : State) : Prop :=
  1 ≤ s.intake.dedupHold ∧ s.intake.dedupHold ≤ 60 ∧
  (s.drawTimeout = 0 ∨ (10 ≤ s.drawTimeout ∧ s.drawTimeout ≤ 3600)) ∧
  ∀ n : Fin 16, (Vec.get s.profiles n).inRange = true

end Sys2Proof.Machine
end

