-- ==== Sys2Proof/Certificates/Slice0/Obligations.lean ====
section
/-! DEFINITION. The statements for the provers, with the few words they share. -/

namespace Sys2Proof.Machine

/-! ## Words the statements share -/

/-- RST# is high, and the request handler has taken a request of this code, tag and operands. -/
def Asked (s : State) (code : Byte) (tag : Word16) (operands : List Byte) : Prop :=
  s.rstLow = false ∧ s.link.handler = .taken ⟨code, tag, operands⟩

/-- `s` with the request in hand answered and nothing else changed: the response body is code, tag, result byte and
data, and the handler is idle (R178, R179). -/
def answeredWith (s : State) (code : Byte) (tag : Word16) (result : Byte) (data : List Byte) : State :=
  s.setLink { s.link with
    handler := .idle,
    uplink := s.link.uplink ++ [⟨.response, [code, byte (tag.toNat / 256), byte tag.toNat, result] ++ data⟩] }

/-- The notice list after an event sets status `i`: the status joins the end if it was clear, its enable is on, and
it does not stand there (R182). -/
def joined (n : Notices) (i : StatusId) : List StatusId :=
  if n.isSet i = true ∨ n.isEnabled i = false ∨ i ∈ n.list then n.list else n.list ++ [i]

/-- `n` after an event sets a status of round `q`: that flag is set, its enable and every other status with its data
stand, and the list is as `joined` says (R181, R182). -/
def roundSet (n : Notices) (q : Fin 64) (w : RoundStatus) : Notices :=
  let f := Vec.get n.rounds q
  { n with
    rounds := Vec.put n.rounds q (match w with
      | .ready => { f with ready := ⟨true, f.ready.enabled⟩ }
      | .emptied => { f with emptied := ⟨true, f.emptied.enabled⟩ }
      | .late => { f with late := ⟨true, f.late.enabled⟩ }),
    list := joined n (.round q w) }

/-- An item of STATUS as the part stands, in the layout of section 10.8 (R185, R190): absent values FFh and FFFFh, a
flag 1 when set. -/
def statusText (s : State) (i : StatusItem) : List Byte :=
  let flag (b : Bool) : Byte := if b then 1 else 0
  let n := s.notices
  match i with
  | .intakeState => match s.intake.state with | .run => [0, 0xFF] | .held c => [1, c.code] | .stopped => [2, 0xFF]
  | .stoppedIndication => match s.intake.state with | .stopped => [1] | _ => [0]
  | .intakeQueue => be32 s.intake.accepted.toNat ++ be32 s.intake.taken.toNat ++ be16 s.intake.queue.length
  | .sweep => [flag s.sweep.running] ++ be16 s.sweep.cursor
  | .epoch => be32 s.time.epoch.toNat
  | .entryPool => be16 s.free
  | .downlinkQueue => [byte s.link.downlink.length]
  | .uplinkQueue => [byte s.link.uplink.length, 1, byte n.list.length]
  | .deviceStatuses => [flag n.held.set + 2 * flag n.sweepDone.set + 4 * flag n.stopped.set,
      flag n.held.enabled + 2 * flag n.sweepDone.enabled + 4 * flag n.stopped.enabled,
      match n.heldCause with | some c => c.code | none => 0xFF] ++
    (match n.stoppedSlot with | some i => be16 i | none => [0xFF, 0xFF])
  | .conditionStatuses => allKinds.flatMap fun k =>
    [flag (Vec.get n.conds k.idx).set] ++ subjectBytes (Vec.get n.conds k.idx).subject ++
      be32 (Vec.get n.conds k.idx).since.toNat

/-- The items of STATUS in the order of its response (section 10.8). -/
def inOrderOfStatus (text : StatusItem → List Byte) : List Byte :=
  text .intakeState ++ text .stoppedIndication ++ text .intakeQueue ++ text .sweep ++ text .epoch ++ text .entryPool ++
    text .downlinkQueue ++ text .uplinkQueue ++ text .deviceStatuses ++ text .conditionStatuses

/-- A condition unit with the occurrence counter of kind `k` advanced (R67). -/
def counted (c : CondUnit) (k : Kind) : CondUnit :=
  { c with counts := Vec.put c.counts k.idx (Vec.get c.counts k.idx + 1) }

/-- The Intake Unit may take the frame at the head of its queue: RST# high, RUN, no frame in flight, nothing waiting
on a frame end, no RESTART in hand (R6). -/
def MayTake (s : State) : Prop :=
  s.rstLow = false ∧ s.intake.state = .run ∧ s.intake.inFlight = none ∧ s.intake.holdWaiting = none ∧
  s.restarting = false ∧ (∀ tag, s.link.handler ≠ .holdWaiting tag) ∧ ∀ tag, s.link.handler ≠ .stepWaiting tag

/-- `s` after the frame at the head of its queue was refused with kind `k` and only counted. -/
def refusedFrame (s : State) (rest : List LaneFrame) (k : Kind) : State :=
  (s.setCond (counted s.cond k)).setIntake
    { s.intake with queue := rest, taken := s.intake.taken + 1, inFlight := none, holdWaiting := none }

/-- `s` with a new frame's pair at the newest end of the Duplicate Window (R17). -/
def remembered (s : State) (x : SensorFrame) : State :=
  s.setIntake { s.intake with
    window := (if s.intake.window.length < 128 then s.intake.window else s.intake.window.tail) ++
      [⟨x.binId, x.seq, s.time.tick, 1⟩] }

/-- The window holds the frame's pair. -/
def InWindow (s : State) (x : SensorFrame) : Prop := ∃ e ∈ s.intake.window, e.binId = x.binId ∧ e.seq = x.seq

/-- Lookup of `b` goes on past the slot at probe distance `d`: it is TOMBSTONE, DAMAGED, or LIVE, verified, with
another ID (R27). -/
def passesOver (t : BinTable) (b : Word32) (d : Nat) : Prop :=
  t.get (probeSlot (home b) d) = .tombstone ∨ t.get (probeSlot (home b) d) = .damaged ∨
  ∃ r, t.get (probeSlot (home b) d) = .live r 0 ∧ r.binId ≠ b

/-- `t` is `s` but for the parts a failed check code touches (R24, R75). -/
def sameButStop (s t : State) : Prop :=
  t = ((((((s.setTable t.table).setCond t.cond).setIntake t.intake).setSweep t.sweep).setNotices t.notices).setRounds
    t.rounds).setFree t.free

/-- No unmarked entry on any side names the slot. -/
def noEntry (s : State) (i : Nat) : Prop :=
  ∀ q, ∀ e ∈ (s.round q).fill ++ (s.round q).other, ¬ (e.mark = .none ∧ e.slot = i)

/-- The side's first unmarked entry that names the slot, with what stands before and after it. -/
def entryAt (i : Nat) (l before : List Entry) (e : Entry) (after : List Entry) : Prop :=
  l = before ++ e :: after ∧ e.mark = .none ∧ e.slot = i ∧ ∀ x ∈ before, ¬ (x.mark = .none ∧ x.slot = i)

/-- The unmarked entry naming slot `i`, if any, has been withdrawn from the sheets of `s` in `t`: it has left a FILL or
SEALED side and its pool slot is free, or is marked WITHDRAWN at its position on an OPEN or SPENT side (R24, R30,
R114). -/
def entryWithdrawn (s t : State) (i : Nat) : Prop :=
  (noEntry s i → t.rounds = s.rounds ∧ t.free = s.free) ∧
  (∀ u before e after, locate s.rounds i = some (u, .fill) → entryAt i (s.round u).fill before e after →
    t.rounds = Vec.put s.rounds u { s.round u with fill := before ++ after } ∧ t.free = s.free + 1) ∧
  (∀ u before e after, locate s.rounds i = some (u, .other) → entryAt i (s.round u).other before e after →
    ((s.round u).otherState = .sealed →
      t.rounds = Vec.put s.rounds u { s.round u with other := before ++ after } ∧ t.free = s.free + 1) ∧
    ((s.round u).otherState = .opened ∨ (s.round u).otherState = .spent →
      t.rounds = Vec.put s.rounds u
        { s.round u with other := before ++ { e with mark := .withdrawn } :: after } ∧ t.free = s.free))

/-- A failed check code in slot `i` has taken `s` to `t`: the slot is DAMAGED and every other slot as before,
STORE_ERROR is counted with its slot, the part is STOPPED with its pin high, a running sweep has ended at its cursor
with reason STOPPED, the device STOPPED status is set and holds the slot unless it was set already, every other status
stands, the slot's unmarked entry is withdrawn, and no lane, profile, port, queue, timer or clock is touched (R12, R24,
R75, R76, R168). -/
def stoppedBy (s t : State) (i : Nat) : Prop :=
  t.table.get i = .damaged ∧ (∀ j, j ≠ i → t.table.get j = s.table.get j) ∧
  t.cond = { s.cond with storeErrors := s.cond.storeErrors + 1, latestSlot := some i } ∧
  t.intake = { s.intake with state := .stopped } ∧ t.stopPin = true ∧
  t.sweep = { s.sweep with
    running := false, endReason := if s.sweep.running = true then some .stopped else s.sweep.endReason } ∧
  t.notices = { s.notices with
    stopped := { s.notices.stopped with set := true },
    stoppedSlot := if s.notices.stopped.set = true then s.notices.stoppedSlot else some i,
    list := joined s.notices .stopped } ∧
  entryWithdrawn s t i ∧ sameButStop s t

/-- The current fill a DRAW reads for an entry: none for a marked one, the record's for an unmarked one (R144). -/
def currentFill (t : BinTable) (e : Entry) : Option Nat :=
  if e.mark ≠ .none then none
  else
    match t.get e.slot with
    | .live r _ => r.fill
    | _ => none

/-- The slot is LIVE with a good check code. -/
def liveGood (t : BinTable) (i : Nat) : Prop := ∃ r, t.get i = .live r 0

/-- The port is not reading a side. -/
def notReading (x : Port) : Prop := x.state = .unbound ∨ ∃ q, x.state = .waiting q

/-- `t` with the visit of slot `i` ended: counted, the cursor lowered; after slot 0, whatever the visit found, the sweep
is DONE and the device SWEEP_DONE status set (R161). -/
def walked (t : State) (i : Nat) : State :=
  if i = 0 then
    (t.setSweep { t.sweep with
      running := false, cursor := 0, endReason := some .done, visited := t.sweep.visited + 1 }).setNotices
      { t.notices with
        sweepDone := { t.notices.sweepDone with set := true }, list := joined t.notices .sweepDone }
  else t.setSweep { t.sweep with cursor := i - 1, visited := t.sweep.visited + 1 }

/-- The Uplink Queue has a free place: one that holds no frame and is not reserved for a response (R178). -/
def freePlace (s : State) : Prop := s.link.uplink.length + (if s.link.handler = .idle then 0 else 1) < 64

/-- The 35 request codes of the manual, each with the length of its operands (R179, section 10.8). -/
def codesWithLengths : List (Nat × Nat) :=
  [(0x10, 0), (0x11, 0), (0x12, 0), (0x13, 1), (0x20, 8), (0x21, 4), (0x22, 4), (0x23, 2), (0x30, 14), (0x31, 1),
    (0x40, 2), (0x41, 1), (0x42, 2), (0x43, 1), (0x44, 1), (0x45, 1), (0x50, 4), (0x51, 0)] ++
  [(0x60, 3), (0x61, 1), (0x62, 3), (0x63, 1), (0x70, 8), (0x71, 1), (0x72, 1), (0x80, 0), (0x81, 0), (0x82, 0),
    (0x90, 0), (0x91, 1), (0x92, 3), (0x93, 1), (0x94, 3), (0x95, 3), (0x9F, 0)]

/-- The statuses that a NOTICE ENABLE of a scope and a round names, in the order of R183. -/
def named (scope : Byte) (q : Fin 64) : List StatusId :=
  match scope.toNat with
  | 0 => [.round q .ready, .round q .emptied, .round q .late]
  | 1 => allRounds.flatMap fun u => [.round u .ready, .round u .emptied, .round u .late]
  | _ => [.held, .sweepDone, .stopped]

/-- The enable that three flags in bits 0, 1, 2 write for a status (R183). -/
def wanted (flags : Byte) : StatusId → Bool
  | .round _ .ready => flags.getLsbD 0
  | .round _ .emptied => flags.getLsbD 1
  | .round _ .late => flags.getLsbD 2
  | .cond _ => true
  | .held => flags.getLsbD 0
  | .sweepDone => flags.getLsbD 1
  | .stopped => flags.getLsbD 2

/-- `s` with intake HELD for a cause and the device HELD status set with it (R7, R11). -/
def heldWith (s : State) (c : Cause) : State :=
  (s.setIntake { s.intake with state := .held c }).setNotices { s.notices with
    held := { s.notices.held with set := true }, heldCause := some c, list := joined s.notices .held }

/-- `s` with the condition status of kind `k` set with a subject, or going on counting, for `n` occurrences (R69). -/
def notedWith (s : State) (k : Kind) (x : Option Subject) (n : Word32) : State :=
  s.setNotices { s.notices with
    conds := Vec.put s.notices.conds k.idx
      ⟨true, x, if (Vec.get s.notices.conds k.idx).set = true then satAdd32 (Vec.get s.notices.conds k.idx).since n
        else n⟩,
    list := joined s.notices (.cond k) }

/-- `s` after one condition of the frame in flight was disposed of by the applicable action of its kind: counted under
each action, noted under NOTE, noted with a hold on the frame's end under HOLD, put aside under DEFER (R66–R72). -/
def disposedOf (s : State) (k : Kind) (x : Subject) : State :=
  let noted := notedWith (s.setCond (counted s.cond k)) k (some x) 1
  match s.cond.action k with
  | .record => s.setCond (counted s.cond k)
  | .relay => s.setCond (counted s.cond k)
  | .note => noted
  | .hold => noted.setIntake { s.intake with holdWaiting := some k }
  | .defer => s.setCond { counted s.cond k with
      deferred := Vec.put s.cond.deferred k.idx ⟨satAdd32 (Vec.get s.cond.deferred k.idx).count 1, some x⟩ }

/-- `s` after all conditions of a frame were disposed of in the given order and the frame, if one of them had RELAY,
offered as a relay once: it enters with 9 places free, else it is lost and counted (R64, R70, R180). -/
def allDisposedOf (s : State) (f : LaneFrame) (l : List (Kind × Subject)) : State :=
  let t := l.foldl (fun u c => disposedOf u c.1 c.2) s
  if ∃ c ∈ l, s.cond.action c.1 = .relay then
    t.setLink
      (if t.link.uplink.length + (if t.link.handler = .idle then 0 else 1) + 9 ≤ 64 then
        { t.link with uplink := t.link.uplink ++ [⟨.relay, byte f.lane.val :: f.strength :: f.bytes⟩] }
      else { t.link with relayLost := t.link.relayLost + 1 })
  else t

/-- `s` after the processing of the frame in flight has ended: the frame has left the queue and is counted; in RUN
intake is HELD for the last HOLD action waiting, else for a pending HOLD request; in HELD for that action, else with
cause STEP for a STEP, which replaces the cause of a set HELD status alone; a HOLD or STEP that waited is answered,
STOPPED if the part is (R6, R8, R10–R12, R21). -/
def frameOver (s : State) (lane : Fin 4) (outcome : Byte) : State :=
  let left := s.setIntake { s.intake with
    queue := s.intake.queue.tail, taken := s.intake.taken + 1, inFlight := none, holdWaiting := none }
  let stepped := (left.setIntake { left.intake with state := .held .step }).setNotices
    (if s.notices.held.set = true then { s.notices with heldCause := some .step } else s.notices)
  match s.link.handler, s.intake.state, s.intake.holdWaiting with
  | .holdWaiting tag, .stopped, _ => answeredWith left 0x10 tag 8 []
  | .stepWaiting tag, .stopped, _ => answeredWith left 0x12 tag 8 []
  | _, .stopped, _ => left
  | .holdWaiting tag, .run, some k =>
    answeredWith (heldWith left (.kind k)) 0x10 tag 0 (be32 (s.intake.taken + 1).toNat)
  | .holdWaiting tag, .run, none => answeredWith (heldWith left .request) 0x10 tag 0 (be32 (s.intake.taken + 1).toNat)
  | .holdWaiting tag, .held _, some k =>
    answeredWith (heldWith left (.kind k)) 0x10 tag 0 (be32 (s.intake.taken + 1).toNat)
  | .holdWaiting tag, .held _, none => answeredWith left 0x10 tag 0 (be32 (s.intake.taken + 1).toNat)
  | .stepWaiting tag, .run, none =>
    answeredWith left 0x12 tag 0 ([byte lane.val] ++ be32 (s.intake.taken + 1).toNat ++ [outcome])
  | .stepWaiting tag, .held _, none =>
    answeredWith stepped 0x12 tag 0 ([byte lane.val] ++ be32 (s.intake.taken + 1).toNat ++ [outcome])
  | .stepWaiting tag, _, some k =>
    answeredWith (heldWith left (.kind k)) 0x12 tag 0
      ([byte lane.val] ++ be32 (s.intake.taken + 1).toNat ++ [outcome])
  | _, _, some k => heldWith left (.kind k)
  | _, _, none => left

/-- `s` after the processing of the frame in flight has ended when intake enters STOPPED after that end (R59): the last
HOLD action waiting has held intake at the end and set the HELD status, which STOPPED leaves as it stands; a pending
HOLD is dropped and a STEP gives no cause; the HOLD or STEP that waited is answered STOPPED (R8, R10–R12). -/
def frameOverThenStopped (s : State) : State :=
  let left := s.setIntake { s.intake with
    state := .stopped, queue := s.intake.queue.tail, taken := s.intake.taken + 1, inFlight := none,
    holdWaiting := none }
  let ended := match s.intake.holdWaiting with
    | some k => (heldWith left (.kind k)).setIntake left.intake
    | none => left
  match s.link.handler with
  | .holdWaiting tag => answeredWith ended 0x10 tag 8 []
  | .stepWaiting tag => answeredWith ended 0x12 tag 8 []
  | _ => ended

/-- The kinds of an applied frame's conditions, in number order (R61). -/
def conditionKinds (x : InFlight) (y : Reading) (placeFailed : Bool) : List Kind :=
  ([(.blankedRead, y.blankedRead), (.stepJump, y.stepJump), (.seqGap, x.gap), (.heat, x.sensor.heat),
    (.tamper, x.sensor.tamper), (.lowBattery, x.sensor.lowBattery), (.overfill, y.overfill),
    (.placeFail, placeFailed)].filter fun c : Kind × Bool => c.2).map Prod.fst

/-- `s` after the re-examination of a changed kind (R74): nothing with no deferred occurrence, and nothing under DEFER;
else they are given up under RECORD and RELAY, noted under NOTE, noted with intake held as for a group T condition
under HOLD. -/
def reexamined (s : State) (k : Kind) : State :=
  let d := Vec.get s.cond.deferred k.idx
  let emptied := s.setCond { s.cond with deferred := Vec.put s.cond.deferred k.idx ⟨0, none⟩ }
  let noted := notedWith emptied k d.subject d.count
  if d.count = 0 then s
  else
    match s.cond.action k with
    | .record => emptied
    | .relay => emptied
    | .note => noted
    | .hold =>
      if s.intake.state = .stopped then noted
      else if s.intake.inFlight ≠ none then noted.setIntake { s.intake with holdWaiting := some k }
      else heldWith noted (.kind k)
    | .defer => s

/-- A side with an entry put in before the first entry of a lower class, which on a side in the order of R104 is after
the last entry of its class. -/
def withEntry (e : Entry) (l : List Entry) : List Entry :=
  (l.takeWhile fun x => x.cls.rank ≤ e.cls.rank) ++ e :: l.dropWhile fun x => x.cls.rank ≤ e.cls.rank

/-- `s` after the Sheet Builder's claim on the slot of a displaced or dropped bin: its placement is UNPLACED, or with a
failed check code the part is stopped by a STORE_ERROR; a slot that is not LIVE is left (R24, R59, R132). -/
def unplacedAt (s : State) (i : Nat) : State :=
  match s.table.get i with
  | .live r d =>
    if d = 0 then s.setTable (s.table.put i (.live { r with placement := .unplaced } 0)) else storeError s i
  | _ => s

/-- `s` after a carried entry found no place: its pool slot is freed, its bin becomes UNPLACED, and PLACE_FAIL is raised
unless that bin's check code failed (R132). -/
def notCarried (s : State) (e : Entry) : State :=
  let t := unplacedAt (s.setFree (s.free + 1)) e.slot
  match s.table.get e.slot with
  | .live _ d => if d = 0 then raiseT t .placeFail (.bin e.binId) else t
  | _ => raiseT t .placeFail (.bin e.binId)

/-- The carry-over of one unmarked entry to the FILL side of round `q`, with the figures so far (R131, R132): below the
cap it is put on the side as a carried entry; at the cap it does so in place of a last entry of strictly lower class,
which is displaced, its bin UNPLACED and its pool slot freed; else it is dropped. -/
def carriedOver (q : Fin 64) (acc : State × Figures) (e : Entry) : State × Figures :=
  let s := acc.1
  let g := acc.2
  let x := s.round q
  let c := { e with carried := true }
  if x.fill.length < x.cap then
    (s.setRound q { x with fill := insertCarried c x.fill }, { g with carried := g.carried + 1 })
  else
    match x.fill.getLast? with
    | some last =>
      if e.cls.rank < last.cls.rank then
        (unplacedAt ((s.setRound q { x with
            fill := insertCarried c x.fill.dropLast, displaced := satInc16 x.displaced }).setFree (s.free + 1))
          last.slot, { g with carried := g.carried + 1, displaced := g.displaced + 1 })
      else (notCarried s e, { g with dropped := g.dropped + 1 })
    | none => (notCarried s e, { g with dropped := g.dropped + 1 })

end Sys2Proof.Machine

open Sys2Proof Sys2Proof.Machine

/-! ## The step, its outcomes, the reset pin -/

/-- One step takes the command at the front of the queue and runs it on the part with the rest of the queue. With an
empty queue the part idles: the model's choice, notes/assumptions/4.md. -/
def Obligations.StepRunsFrontCommand : Prop :=
  (∀ s c rest, s.pending = c :: rest → step s = exec c (s.setPending rest)) ∧
  (∀ s, s.pending = [] → step s = .next s)

/-- Every command on operands the part has answers a next state. A command that names a lane, a round or a port the
part does not have faults, by the model's choice (notes/assumptions/19.md). -/
def Obligations.CommandsCompleteOrNameAbsentThing : Prop :=
  (∀ (c : Instr) (s : State), c.wellFormed = true → ∃ t, exec c s = .next t) ∧
  (∀ n b s, 4 ≤ n → exec (.laneFrameEnd n b) s = .fault .noSuchLane) ∧
  (∀ r s, 64 ≤ r → exec (.cutoffEvent r) s = .fault .noSuchRound) ∧
  (∀ p s, 4 ≤ p → exec (.drawTimerExpiry p) s = .fault .noSuchPort)

/-- While RST# is low no command but its release changes the part (R191). -/
def Obligations.LowResetIgnoresCommands : Prop :=
  ∀ (c : Instr) (s : State), s.rstLow = true → c.wellFormed = true → (∀ h a, c ≠ .rstRelease h a) →
    exec c s = .next s

/-- RST# going low gives up every piece of state, with the STOP pin low and the frame being sent cut off; its release
gives every block its power-on values, samples the strap, and leaves the lanes whose chip-select is asserted without
a frame from that assertion (R191, R192). By the model's choice the state holds the power-on values already while RST#
is low, the waiting commands, which are the model's own, stay (notes/assumptions/9.md), and the frame cut off is the one
at the head of the Uplink Queue (notes/assumptions/10.md). -/
def Obligations.ResetAssertAndRelease : Prop :=
  (∀ s, s.rstLow = false → ∃ t, exec .rstAssert s = .next t ∧ t.rstLow = true ∧ t.stopPin = false ∧
    t = ((State.reset.setPending s.pending).setRstLow true).setTxOut t.txOut ∧
    (∀ f rest, s.link.uplink = f :: rest → t.txOut = .cutOff f)) ∧
  (∀ s high asserted, s.rstLow = true → ∃ t, exec (.rstRelease high asserted) s = .next t ∧
    t.rstLow = false ∧ t.rateHigh = high ∧ t.intake = .powerOn ∧
    t = (((State.reset.setPending s.pending).setTxOut t.txOut).setRateHigh high).setLanes t.lanes ∧
    ∀ n : Fin 4, t.lane n = ⟨true, 0, 0, 0, asserted.contains n.val⟩)

/-! ## Lanes and intake -/

/-- The end of a chip-select assertion (R1, R2, R5, R192): blind to an assertion begun before the release of RST#; no
complete byte makes no frame; a disabled lane drops and counts it; an enabled lane counts it received, and it enters
the queue with at most 32 frame bytes and the overlong mark, or at 256 frames is lost and INTAKE_OVERRUN raised for the
lane, which changes nothing of the queue, the counts or the window. -/
def Obligations.LaneFrameOutcomes : Prop :=
  ∀ (s : State) (n : Fin 4) (bytes : List Byte), s.rstLow = false →
    ((s.lane n).blind = true →
      exec (.laneFrameEnd n bytes) s = .next (s.setLane n { s.lane n with blind := false })) ∧
    ((s.lane n).blind = false → bytes = [] → exec (.laneFrameEnd n bytes) s = .next s) ∧
    ∀ v rest, (s.lane n).blind = false → bytes = v :: rest →
      ((s.lane n).enabled = false →
        exec (.laneFrameEnd n bytes) s =
          .next (s.setLane n { s.lane n with dropped := (s.lane n).dropped + 1 })) ∧
      ((s.lane n).enabled = true → s.intake.queue.length < 256 →
        exec (.laneFrameEnd n bytes) s =
          .next ((s.setLane n { s.lane n with received := (s.lane n).received + 1 }).setIntake
            { s.intake with
              queue := s.intake.queue ++ [⟨n, v, rest.take 32, decide (32 < rest.length)⟩],
              accepted := s.intake.accepted + 1 })) ∧
      ((s.lane n).enabled = true → 256 ≤ s.intake.queue.length →
        ∃ t, exec (.laneFrameEnd n bytes) s = .next t ∧
          t = raiseT (s.setLane n
            { s.lane n with received := (s.lane n).received + 1, lost := (s.lane n).lost + 1 })
            .intakeOverrun (.lane n) ∧
          t.lanes = Vec.put s.lanes n
            { s.lane n with received := (s.lane n).received + 1, lost := (s.lane n).lost + 1 } ∧
          t.intake.queue = s.intake.queue ∧ t.intake.accepted = s.intake.accepted ∧
          t.intake.taken = s.intake.taken ∧ t.intake.window = s.intake.window ∧
          t.cond.counts = (counted s.cond .intakeOverrun).counts ∧
          t = (((s.setLanes t.lanes).setIntake t.intake).setCond t.cond).setNotices t.notices)

/-- The length check, the CRC check and the field check, in this order, and the fields of a frame that passes (R14,
R15); and the sequence check (R20). -/
def Obligations.FrameChecksFollowTheRules : Prop :=
  (∀ f : LaneFrame, f.overlong = true ∨ f.bytes.length ≠ 13 → checkForm f = .error .formBad) ∧
  (∀ (n : Fin 4) (v b0 b1 b2 b3 q0 q1 fl d0 d1 bat res c0 c1 : Byte),
    let f : LaneFrame := ⟨n, v, [b0, b1, b2, b3, q0, q1, fl, d0, d1, bat, res, c0, c1], false⟩
    let id : Word32 := b0 ++ b1 ++ b2 ++ b3
    let good := fl &&& 7#8 = 0#8 ∧ res = 0#8 ∧ ((d0 ++ d1).toNat ≤ 400 ∨ (d0 ++ d1).toNat = 4095) ∧
      bat.toNat ≤ 100 ∧ id ≠ 0#32 ∧ id ≠ 0xFFFFFFFF#32
    let crc := crc16 [b0, b1, b2, b3, q0, q1, fl, d0, d1, bat, res]
    (crc ≠ c0 ++ c1 → checkForm f = .error .crcBad) ∧
    (crc = c0 ++ c1 → ¬ good → checkForm f = .error .formBad) ∧
    (crc = c0 ++ c1 → good → checkForm f = .ok ⟨id, q0 ++ q1, if fl.getLsbD 7 then .glass else .litter,
      fl.getLsbD 6, fl.getLsbD 5, fl.getLsbD 4, fl.getLsbD 3, (d0 ++ d1).toNat, bat.toNat⟩)) ∧
  (∀ (r : BinRecord) (q last : Word16),
    (r.state = .unseen → checkSeq r q = .pass) ∧
    (r.state ≠ .unseen → r.lastSeq = some last →
      (q = 0#16 → checkSeq r q = .pass) ∧
      (q ≠ 0#16 → (q - last).toNat = 0 → checkSeq r q = .stale) ∧
      (q ≠ 0#16 → 32768 ≤ (q - last).toNat → checkSeq r q = .stale) ∧
      (q ≠ 0#16 → (q - last).toNat = 1 → checkSeq r q = .pass) ∧
      (q ≠ 0#16 → 2 ≤ (q - last).toNat → (q - last).toNat ≤ 32767 → checkSeq r q = .gap)))

/-- A frame that passes all seven checks is in flight: its arrival tick and epoch and its slot are captured, its pair
is in the Duplicate Window, and it keeps its place in the queue (R6, R17, R19–R21). -/
def Obligations.FrameTakeAccepts : Prop :=
  ∀ (s : State) (f : LaneFrame) (rest : List LaneFrame) (x : SensorFrame) (i : Nat) (r : BinRecord),
    MayTake s → s.intake.queue = f :: rest → checkForm f = .ok x → ¬ InWindow s x →
    lookup s.table x.binId = .found i r → x.kind = r.kind → checkSeq r x.seq ≠ .stale →
    exec .frameTake s = .next ((remembered s x).setIntake
      { (remembered s x).intake with
        inFlight := some ⟨f, x, s.time.tick, s.time.epoch, i, decide (checkSeq r x.seq = .gap), false⟩ })

/-- A frame that fails a check is refused with that one condition, disposed of by whatever action its kind has (for the
checks of the frame's form ApplyClaimEndsFrame says so); with the action RECORD it is counted and leaves the queue, and
nothing else changes but the Duplicate Window (R17, R19–R21, R64, R66–R72). With no frame waiting, in HELD or in
STOPPED, with a frame in flight, or while a RESTART is worked, no frame is taken (R6, R13, R188): that FRAME_TAKE takes
none in HELD also while a STEP is in hand, whose frame is taken by the STEP's own command, is the model's reading
(notes/assumptions/7.md, DEDUCED). -/
def Obligations.FrameTakeRefuses : Prop :=
  (∀ (s : State) (f : LaneFrame) (rest : List LaneFrame) (k : Kind),
    MayTake s → s.intake.queue = f :: rest → checkForm f = .error k → s.cond.action k = .record →
    exec .frameTake s = .next (refusedFrame s rest k)) ∧
  (∀ (s : State) (f : LaneFrame) (rest : List LaneFrame) (x : SensorFrame),
    MayTake s → s.intake.queue = f :: rest → checkForm f = .ok x →
    let refused (u : State) (k : Kind) :=
      frameOver (allDisposedOf u f [(k, .bin x.binId)]) f.lane (byte k.idx.val)
    (∀ before after e, s.intake.window = before ++ e :: after → e.binId = x.binId → e.seq = x.seq →
      (∀ e' ∈ before, ¬ (e'.binId = x.binId ∧ e'.seq = x.seq)) →
      let again := s.setIntake { s.intake with
        window := before ++ { e with copies := if e.copies = 255#8 then 255#8 else e.copies + 1 } :: after }
      exec .frameTake s = .next (refused again .duplicate) ∧
      (s.cond.action .duplicate = .record → exec .frameTake s = .next (refusedFrame again rest .duplicate))) ∧
    (¬ InWindow s x →
      (lookup s.table x.binId = .notFound → exec .frameTake s = .next (refused (remembered s x) .noBin)) ∧
      (∀ i r, lookup s.table x.binId = .found i r → x.kind ≠ r.kind →
        exec .frameTake s = .next (refused (remembered s x) .kindClash)) ∧
      (∀ i r, lookup s.table x.binId = .found i r → x.kind = r.kind → checkSeq r x.seq = .stale →
        exec .frameTake s = .next (refused (remembered s x) .staleSeq)) ∧
      (lookup s.table x.binId = .notFound → s.cond.action .noBin = .record →
        exec .frameTake s = .next (refusedFrame (remembered s x) rest .noBin)) ∧
      (∀ i r, lookup s.table x.binId = .found i r → x.kind ≠ r.kind → s.cond.action .kindClash = .record →
        exec .frameTake s = .next (refusedFrame (remembered s x) rest .kindClash)) ∧
      (∀ i r, lookup s.table x.binId = .found i r → x.kind = r.kind → checkSeq r x.seq = .stale →
        s.cond.action .staleSeq = .record →
        exec .frameTake s = .next (refusedFrame (remembered s x) rest .staleSeq)))) ∧
  (∀ s : State, s.rstLow = false →
    s.intake.state ≠ .run ∨ s.intake.queue = [] ∨ s.intake.inFlight ≠ none ∨
      (∃ tag done lost, s.link.handler = .restarting tag done lost) → exec .frameTake s = .next s)

/-- A frame of a bin the table does not hold, with NO_BIN disposed of by RELAY: it is relayed with its lane, strength
and bytes when 9 places of the Uplink Queue are free, else the relay is lost and counted (R19, R64, R70, R180). -/
def Obligations.UnknownBinIsRelayed : Prop :=
  ∀ (s : State) (f : LaneFrame) (rest : List LaneFrame) (x : SensorFrame),
    MayTake s → s.intake.queue = f :: rest → checkForm f = .ok x → ¬ InWindow s x →
    lookup s.table x.binId = .notFound → s.cond.action .noBin = .relay →
    exec .frameTake s = .next ((refusedFrame (remembered s x) rest .noBin).setLink
      (if s.link.uplink.length + (if s.link.handler = .idle then 0 else 1) + 9 ≤ 64 then
        { s.link with uplink := s.link.uplink ++ [⟨.relay, byte f.lane.val :: f.strength :: f.bytes⟩] }
      else { s.link with relayLost := s.link.relayLost + 1 }))

/-- HOLD and RESUME in each intake state (R7–R9): HOLD in RUN holds intake at once with cause REQUEST and sets the
device HELD status, or waits for the frame in flight; RESUME leaves HELD for RUN and clears the status. That RESUME
leaves a HELD notice still owed on the notice list is the model's choice (notes/assumptions/15.md, DESIGN CHOICE). -/
def Obligations.HoldAndResume : Prop :=
  (∀ s tag, Asked s 0x10 tag [] →
    (s.intake.state = .run → s.intake.inFlight = none →
      exec .hold s = .next (answeredWith ((s.setIntake { s.intake with state := .held .request }).setNotices
        { s.notices with
          held := { s.notices.held with set := true }, heldCause := some .request,
          list := joined s.notices .held }) 0x10 tag 0 (be32 s.intake.taken.toNat))) ∧
    (s.intake.state = .run → s.intake.inFlight ≠ none →
      exec .hold s = .next (s.setLink { s.link with handler := .holdWaiting tag })) ∧
    (∀ c, s.intake.state = .held c →
      exec .hold s = .next (answeredWith s 0x10 tag 0 (be32 s.intake.taken.toNat))) ∧
    (s.intake.state = .stopped → exec .hold s = .next (answeredWith s 0x10 tag 8 []))) ∧
  (∀ s tag, Asked s 0x11 tag [] →
    (∀ c, s.intake.state = .held c →
      exec .resume s = .next (answeredWith ((s.setIntake { s.intake with state := .run }).setNotices
        { s.notices with held := { s.notices.held with set := false }, heldCause := none }) 0x11 tag 0 [])) ∧
    (s.intake.state = .run → exec .resume s = .next (answeredWith s 0x11 tag 0 [])) ∧
    (s.intake.state = .stopped → exec .resume s = .next (answeredWith s 0x11 tag 8 [])))

/-- STEP in each intake state (R10): in HELD the head frame is taken; one that passes its checks is in flight with the
request waiting on its end; one refused by a check leaves the queue, its condition disposed of by whatever action its
kind has, and the STEP is answered at that end: only counted, intake is HELD with cause STEP, and the answer carries the
lane, the taken count and the kind number; a lookup that meets a failed check code stops the part, and the answer is
STOPPED (R12, R15–R20, R64, R66–R72). That STEP takes the frame within its own command, which leaves it in flight with
the request waiting, is the model's reading (notes/assumptions/7.md, DEDUCED). -/
def Obligations.StepTakesOneFrame : Prop :=
  ∀ s tag, Asked s 0x12 tag [] →
    (∀ c f rest x i r, s.intake.state = .held c → s.intake.queue = f :: rest → checkForm f = .ok x →
      ¬ InWindow s x → lookup s.table x.binId = .found i r → x.kind = r.kind → checkSeq r x.seq ≠ .stale →
      exec .step s = .next (((remembered s x).setIntake { (remembered s x).intake with
        inFlight := some ⟨f, x, s.time.tick, s.time.epoch, i, decide (checkSeq r x.seq = .gap), false⟩ }).setLink
        { s.link with handler := .stepWaiting tag })) ∧
    (∀ c f rest k, s.intake.state = .held c → s.intake.queue = f :: rest → s.intake.holdWaiting = none →
      checkForm f = .error k → s.cond.action k = .record →
      exec .step s = .next (answeredWith (((refusedFrame s rest k).setIntake
        { (refusedFrame s rest k).intake with state := .held .step }).setNotices
        (if s.notices.held.set = true then { s.notices with heldCause := some .step } else s.notices))
        0x12 tag 0 ([byte f.lane.val] ++ be32 (s.intake.taken + 1).toNat ++ [byte k.idx.val]))) ∧
    (∀ c f rest, s.intake.state = .held c → s.intake.queue = f :: rest →
      let u := s.setLink { s.link with handler := .stepWaiting tag }
      let refused (v : State) (k : Kind) (x : Subject) :=
        frameOver (allDisposedOf v f [(k, x)]) f.lane (byte k.idx.val)
      (∀ k, checkForm f = .error k → exec .step s = .next (refused u k (.lane f.lane))) ∧
      (∀ x before after e, checkForm f = .ok x → s.intake.window = before ++ e :: after → e.binId = x.binId →
        e.seq = x.seq → (∀ e' ∈ before, ¬ (e'.binId = x.binId ∧ e'.seq = x.seq)) →
        exec .step s = .next (refused (u.setIntake { s.intake with
          window := before ++ { e with copies := if e.copies = 255#8 then 255#8 else e.copies + 1 } :: after })
          .duplicate (.bin x.binId))) ∧
      (∀ x, checkForm f = .ok x → ¬ InWindow s x →
        (lookup s.table x.binId = .notFound →
          exec .step s = .next (refused (remembered u x) .noBin (.bin x.binId))) ∧
        (∀ i r, lookup s.table x.binId = .found i r → x.kind ≠ r.kind →
          exec .step s = .next (refused (remembered u x) .kindClash (.bin x.binId))) ∧
        (∀ i r, lookup s.table x.binId = .found i r → x.kind = r.kind → checkSeq r x.seq = .stale →
          exec .step s = .next (refused (remembered u x) .staleSeq (.bin x.binId))) ∧
        (∀ i, lookup s.table x.binId = .error i →
          let t := storeError (remembered s x) i
          exec .step s = .next (answeredWith (t.setIntake { t.intake with
            queue := rest, taken := s.intake.taken + 1, inFlight := none, holdWaiting := none }) 0x12 tag 8 [])))) ∧
    (∀ c, s.intake.state = .held c → s.intake.queue = [] → exec .step s = .next (answeredWith s 0x12 tag 7 [])) ∧
    (s.intake.state = .run → exec .step s = .next (answeredWith s 0x12 tag 1 [])) ∧
    (s.intake.state = .stopped → exec .step s = .next (answeredWith s 0x12 tag 8 []))

/-- WINDOW READ: the number of entries, then at most 32 of them from the start position, each with its bin ID,
sequence, arrival tick and copy count; a start above 127 is out of range; nothing else changes (R18). -/
def Obligations.WindowReadReturnsEntries : Prop :=
  ∀ (s : State) (tag : Word16) (start : Byte), Asked s 0x13 tag [start] →
    (start.toNat ≤ 127 →
      exec .windowRead s = .next (answeredWith s 0x13 tag 0
        ([byte s.intake.window.length, byte ((s.intake.window.drop start.toNat).take 32).length] ++
          ((s.intake.window.drop start.toNat).take 32).flatMap fun e =>
            be32 e.binId.toNat ++ be16 e.seq.toNat ++ be32 e.arrivalTick.toNat ++ [e.copies]))) ∧
    (127 < start.toNat → exec .windowRead s = .next (answeredWith s 0x13 tag 2 []))

/-! ## The Bin Table -/

/-- R25: the home slot of a bin ID. -/
def Obligations.HomeSlotOfBin : Prop :=
  (∀ b : Word32, home b = (2654435761 * b.toNat) % 2 ^ 32 / 2 ^ 19) ∧
  (∀ b : Word32, home b = ((2654435761#32 * b).extractLsb' 19 13).toNat) ∧ (∀ b, home b ≤ 8191) ∧
  home 1#32 = 5062 ∧ home 2#32 = 1933 ∧ home 3#32 = 6996

/-- Lookup reads the probe window in order and ends at the first slot that R27 names; the insertion scan takes the
first TOMBSTONE or EMPTY slot of the window (R27, R28). -/
def Obligations.LookupFollowsProbeWindow : Prop :=
  ∀ (t : BinTable) (b : Word32),
    (∀ d, d < 24 → (∀ d' < d, passesOver t b d') →
      (∀ r, t.get (probeSlot (home b) d) = .live r 0 → r.binId = b →
        lookup t b = .found (probeSlot (home b) d) r) ∧
      (∀ r c, t.get (probeSlot (home b) d) = .live r c → c ≠ 0 → lookup t b = .error (probeSlot (home b) d)) ∧
      (t.get (probeSlot (home b) d) = .empty → lookup t b = .notFound)) ∧
    ((∀ d < 24, passesOver t b d) → lookup t b = .notFound) ∧
    (∀ d, d < 24 → (∀ d' < d, (t.get (probeSlot (home b) d')).isLive = true ∨
        t.get (probeSlot (home b) d') = .damaged) →
      t.get (probeSlot (home b) d) = .empty ∨ t.get (probeSlot (home b) d) = .tombstone →
      usableSlot t b = some (probeSlot (home b) d)) ∧
    ((∀ d < 24, (t.get (probeSlot (home b) d)).isLive = true ∨ t.get (probeSlot (home b) d) = .damaged) →
      usableSlot t b = none)

/-- BIN PUT of an ID that lookup does not find: the new record stands in the first usable slot with the contents of
R32, INSERTED, not placed; with no usable slot TABLE_FULL; operands out of range RANGE; in STOPPED STOPPED; in the
last three nothing else changes (R28, R32, R35). A lookup that meets a failed check code stops the part, and the answer
is STOPPED (R24, R35). That events given for a move's two operations are taken in none of these is the model's reading
(notes/assumptions/21.md, DEDUCED). -/
def Obligations.BinPutInsertsRecord : Prop :=
  ∀ (s : State) (tag : Word16) (a b c d kind round profile reset : Byte)
    (between : List SheetEvent),
    Asked s 0x20 tag [a, b, c, d, kind, round, profile, reset] →
    (s.intake.state = .stopped → exec (.binPut between) s = .next (answeredWith s 0x20 tag 8 [])) ∧
    (s.intake.state ≠ .stopped →
      a ++ b ++ c ++ d = 0#32 ∨ a ++ b ++ c ++ d = 0xFFFFFFFF#32 ∨ 1 < kind.toNat ∨
        (63 < round.toNat ∧ round ≠ 255#8) ∨ 15 < profile.toNat ∨ 1 < reset.toNat →
      exec (.binPut between) s = .next (answeredWith s 0x20 tag 2 [])) ∧
    (∀ (k : BinKind) (q : Option (Fin 64)) (p : Fin 16), s.intake.state ≠ .stopped →
      a ++ b ++ c ++ d ≠ 0#32 → a ++ b ++ c ++ d ≠ 0xFFFFFFFF#32 → kind = k.code → round = indexByte q →
      profile = byte p.val → reset.toNat ≤ 1 → lookup s.table (a ++ b ++ c ++ d) = .notFound →
      (∀ i, usableSlot s.table (a ++ b ++ c ++ d) = some i →
        exec (.binPut between) s = .next (answeredWith (s.setTable (s.table.put i (.live
          { binId := a ++ b ++ c ++ d, kind := k, round := q, profile := p, state := .unseen, fill := none,
            lastSeq := none, heardEpoch := s.time.epoch, blankUntil := none, crossing := none, silent := false,
            heat := false, tamper := false, lowBattery := false, placement := .none, lastLane := none,
            lastSignal := none, battery := none, applied := 0, refused := 0 } 0)))
          0x20 tag 0 (be16 i ++ [1, 0]))) ∧
      (usableSlot s.table (a ++ b ++ c ++ d) = none →
        exec (.binPut between) s = .next (answeredWith s 0x20 tag 4 []))) ∧
    (∀ (k : BinKind) (q : Option (Fin 64)) (p : Fin 16) (i : Nat), s.intake.state ≠ .stopped →
      a ++ b ++ c ++ d ≠ 0#32 → a ++ b ++ c ++ d ≠ 0xFFFFFFFF#32 → kind = k.code → round = indexByte q →
      profile = byte p.val → reset.toNat ≤ 1 → lookup s.table (a ++ b ++ c ++ d) = .error i →
      exec (.binPut between) s = .next (answeredWith (storeError s i) 0x20 tag 8 []))

/-- BIN PUT of an ID that lookup finds. Without reset and in the same round, kind and profile are replaced and every
other field kept, UPDATED. With a new round the record is withdrawn and its round replaced; then it is placed where
its state, or its Silent flag and the new profile, call for an entry, with PLACE_FAIL raised if that fails; else its
placement is NONE. With reset the record is withdrawn and reloaded as a new one in its slot, RELOADED (R33, R34). The
clocks' events that the command carries are taken between a move's Withdraw and its Place, each as its own command would
take it (R107); which events these are is the model's reading (notes/assumptions/21.md, DEDUCED). Where the Place would
displace a bin whose slot's check code fails, R24 applies to that slot, the record is not updated, and the request is
answered STOPPED (R35, R38); that the sheets then stand as if neither operation of the move had been made is the model's
reading (notes/assumptions/14.md, DEDUCED). -/
def Obligations.BinPutChangesRecord : Prop :=
  (∀ (s : State) (tag : Word16) (a b c d : Byte) (k : BinKind) (q : Option (Fin 64)) (p : Fin 16) (i : Nat)
    (r : BinRecord) (between : List SheetEvent),
    s.intake.state ≠ .stopped → a ++ b ++ c ++ d ≠ 0#32 → a ++ b ++ c ++ d ≠ 0xFFFFFFFF#32 →
    lookup s.table (a ++ b ++ c ++ d) = .found i r →
    let moved : BinRecord := { r with kind := k, round := q, profile := p, placement := .none }
    let calls (e : EntryClass) : Prop :=
      (r.state = .urgent ∧ e = .urgent) ∨ (r.state = .due ∧ e = .due) ∨
      (r.state ≠ .urgent ∧ r.state ≠ .due ∧ r.silent = true ∧ (Vec.get s.profiles p).checkOnSilence = true ∧
        e = .check)
    let freed := detach s i .withdrawn
    let u := between.foldl takeSheetEvent freed
    (Asked s 0x20 tag [a, b, c, d, k.code, indexByte q, byte p.val, 0] →
      (q = r.round →
        exec (.binPut between) s = .next (answeredWith
          (s.setTable (s.table.put i (.live { r with kind := k, profile := p } 0)))
          0x20 tag 0 (be16 i ++ [2, r.placement.code]))) ∧
      (q ≠ r.round → q = none ∨ (∀ e, ¬ calls e) →
        exec (.binPut between) s = .next (answeredWith (u.setTable (s.table.put i (.live moved 0)))
          0x20 tag 0 (be16 i ++ [2, 0]))) ∧
      (∀ e, q ≠ r.round → q ≠ none → calls e →
        let t := (place u i moved e).1
        (t.intake.state ≠ .stopped → (place u i moved e).2 = .added →
          exec (.binPut between) s = .next (answeredWith
            (t.setTable (t.table.put i (.live { moved with placement := .placed } 0)))
            0x20 tag 0 (be16 i ++ [2, 1]))) ∧
        (t.intake.state ≠ .stopped → (place u i moved e).2 = .failed →
          exec (.binPut between) s = .next (answeredWith
            (raiseT (t.setTable (t.table.put i (.live { moved with placement := .unplaced } 0))) .placeFail
              (.bin r.binId)) 0x20 tag 0 (be16 i ++ [2, 2]))) ∧
        (t.intake.state = .stopped → ∃ j, t.cond.latestSlot = some j ∧
          exec (.binPut between) s = .next (answeredWith (storeError (between.foldl takeSheetEvent s) j) 0x20 tag 8 [])) ∧
        (∀ z front last y n, q = some z → noEntry u i → (u.round z).cap ≤ (u.round z).fill.length →
          (u.round z).fill = front ++ [last] → e.rank < last.cls.rank → u.table.get last.slot = .live y n → n ≠ 0 →
          exec (.binPut between) s = .next (answeredWith
            (storeError (between.foldl takeSheetEvent s) last.slot) 0x20 tag 8 [])))) ∧
    (Asked s 0x20 tag [a, b, c, d, k.code, indexByte q, byte p.val, 1] →
      exec (.binPut between) s = .next (answeredWith (freed.setTable (s.table.put i (.live
        { binId := a ++ b ++ c ++ d, kind := k, round := q, profile := p, state := .unseen, fill := none,
          lastSeq := none, heardEpoch := s.time.epoch, blankUntil := none, crossing := none, silent := false,
          heat := false, tamper := false, lowBattery := false, placement := .none, lastLane := none,
          lastSignal := none, battery := none, applied := 0, refused := 0 } 0)))
        0x20 tag 0 (be16 i ++ [3, 0])))) ∧
  ∀ u : State, u.rstLow = false →
    (∀ n, n < 64 → exec (.cutoffEvent n) u = .next (takeSheetEvent u (.cutoff n))) ∧
    ∀ n, n < 4 → exec (.drawTimerExpiry n) u = .next (takeSheetEvent u (.expiry n))

/-- BIN GET: the slot, the probe distance and every field of the record, in every intake state; NOT_FOUND, RANGE; a
failed check code answers STOPPED; the first three change nothing but the answer. The codes, the presence bits and the
absent values are those of section 10.8 (R36, R190). -/
def Obligations.BinGetReturnsRecord : Prop :=
  (∀ (s : State) (tag : Word16) (a b c d : Byte), Asked s 0x21 tag [a, b, c, d] →
    (a ++ b ++ c ++ d = 0#32 ∨ a ++ b ++ c ++ d = 0xFFFFFFFF#32 →
      exec .binGet s = .next (answeredWith s 0x21 tag 2 [])) ∧
    (a ++ b ++ c ++ d ≠ 0#32 → a ++ b ++ c ++ d ≠ 0xFFFFFFFF#32 →
      (lookup s.table (a ++ b ++ c ++ d) = .notFound → exec .binGet s = .next (answeredWith s 0x21 tag 3 [])) ∧
      (∀ i r, lookup s.table (a ++ b ++ c ++ d) = .found i r →
        exec .binGet s = .next (answeredWith s 0x21 tag 0
          (be16 i ++ [byte ((i + 8192 - home (a ++ b ++ c ++ d)) % 8192), a, b, c, d, r.kind.code, indexByte r.round,
            byte r.profile.val, r.state.code, r.presence, byte (r.fill.getD 0)] ++
          be16 ((r.lastSeq.map BitVec.toNat).getD 0) ++ be32 r.heardEpoch.toNat ++ epochBytes r.blankUntil ++
          epochBytes r.crossing ++ [bits [r.silent, r.heat, r.tamper, r.lowBattery], r.placement.code,
            byte ((r.lastLane.map Fin.val).getD 0), r.lastSignal.getD 0, byte (r.battery.getD 0)] ++
          be16 r.applied.toNat ++ be16 r.refused.toNat))) ∧
      (∀ i, lookup s.table (a ++ b ++ c ++ d) = .error i →
        exec .binGet s = .next (answeredWith (storeError s i) 0x21 tag 8 [])))) ∧
  ([BinKind.litter, .glass].map BinKind.code = [0, 1] ∧
    [BinState.unseen, .normal, .due, .urgent, .blanked].map BinState.code = [0, 1, 2, 3, 4] ∧
    [Placement.none, .placed, .unplaced].map Placement.code = [0, 1, 2]) ∧
  (∀ r : BinRecord, r.presence = bits [r.fill.isSome, r.lastSeq.isSome, r.blankUntil.isSome, r.crossing.isSome,
    r.lastLane.isSome, r.lastSignal.isSome, r.battery.isSome]) ∧
  (∀ (l : List Bool) (j : Nat), j < 8 → (bits l).getLsbD j = l.getD j false) ∧
  (indexByte (none : Option (Fin 64)) = 255 ∧ (∀ q : Fin 64, indexByte (some q) = byte q.val) ∧
    epochBytes none = [0, 0, 0, 0] ∧ ∀ e, epochBytes (some e) = be32 e.toNat)

/-- BIN DROP: the bin is withdrawn, its slot becomes TOMBSTONE, and a frame in flight that found the slot loses its
record; NOT_FOUND, RANGE and STOPPED change nothing but the answer (R29, R37, R39). -/
def Obligations.BinDropDeletesRecord : Prop :=
  ∀ (s : State) (tag : Word16) (a b c d : Byte), Asked s 0x22 tag [a, b, c, d] →
    (s.intake.state = .stopped → exec .binDrop s = .next (answeredWith s 0x22 tag 8 [])) ∧
    (s.intake.state ≠ .stopped →
      (a ++ b ++ c ++ d = 0#32 ∨ a ++ b ++ c ++ d = 0xFFFFFFFF#32 →
        exec .binDrop s = .next (answeredWith s 0x22 tag 2 [])) ∧
      (a ++ b ++ c ++ d ≠ 0#32 → a ++ b ++ c ++ d ≠ 0xFFFFFFFF#32 →
        (lookup s.table (a ++ b ++ c ++ d) = .notFound → exec .binDrop s = .next (answeredWith s 0x22 tag 3 [])) ∧
        (∀ i, lookup s.table (a ++ b ++ c ++ d) = .error i →
          exec .binDrop s = .next (answeredWith (storeError s i) 0x22 tag 8 [])) ∧
        (∀ i r, lookup s.table (a ++ b ++ c ++ d) = .found i r →
          exec .binDrop s = .next (answeredWith (((detach s i .withdrawn).setTable
            (s.table.put i .tombstone)).setIntake { s.intake with
              inFlight := s.intake.inFlight.map fun x => if x.slot = i then { x with dropped := true } else x })
            0x22 tag 0 (be16 i)))))

/-- TABLE READ: the four slot counts, the probe-distance figures and 64 slots from the start, 8191 followed by 0; a
LIVE slot of them whose check code fails stops the part and the answer is STOPPED (R31). That of several failing slots
the first from the start is found is the model's choice (notes/assumptions/28.md). -/
def Obligations.TableReadReturnsSlots : Prop :=
  ∀ (s : State) (tag : Word16) (h l : Byte), Asked s 0x23 tag [h, l] →
    (8191 < (h ++ l).toNat → exec .tableRead s = .next (answeredWith s 0x23 tag 2 [])) ∧
    ((h ++ l).toNat ≤ 8191 →
      (∀ n r c, n < 64 → s.table.get (((h ++ l).toNat + n) % 8192) = .live r c → c ≠ 0 →
        (∀ n' < n, ∀ r' c', s.table.get (((h ++ l).toNat + n') % 8192) = .live r' c' → c' = 0) →
        exec .tableRead s = .next (answeredWith (storeError s (((h ++ l).toNat + n) % 8192)) 0x23 tag 8 [])) ∧
      ((∀ n < 64, ∀ r c, s.table.get (((h ++ l).toNat + n) % 8192) = .live r c → c = 0) →
        exec .tableRead s = .next (answeredWith s 0x23 tag 0
          (be16 (8192 - s.table.length) ++ be16 (s.table.count Slot.isLive) ++
            be16 (s.table.count Slot.isTombstone) ++ be16 (s.table.count Slot.isDamaged) ++
            be32 s.table.distanceSum ++ [byte s.table.distanceMax] ++
            (List.range 64).flatMap fun n =>
              match s.table.get (((h ++ l).toNat + n) % 8192) with
              | .live r _ => [1, byte ((((h ++ l).toNat + n) % 8192 + 8192 - home r.binId) % 8192)] ++
                  be32 r.binId.toNat
              | .empty => [0, 0, 0, 0, 0, 0]
              | .tombstone => [2, 0, 0, 0, 0, 0]
              | .damaged => [3, 0, 0, 0, 0, 0]))))

/-- A failed check code stops the part: the slot is DAMAGED, STORE_ERROR is counted, intake STOPPED, a running sweep
ended at its cursor with reason STOPPED, the device STOPPED status set with the slot, or left with its slot if it was
set already, the HELD status left as it stands, and the slot's unmarked entry withdrawn: removed from a FILL or SEALED
side and freed, or marked on an OPEN or SPENT side. A frame whose lookup finds it ends at once, refused for no kind and
counted for none (R12, R19, R24, R30, R75, R76, R114, R168). -/
def Obligations.StorageErrorStopsPart : Prop :=
  (∀ s i, s.rstLow = false → s.table.wf → i < 8192 → stoppedBy s (storeError s i) i) ∧
  (∀ (s : State) (f : LaneFrame) (rest : List LaneFrame) (x : SensorFrame) (i : Nat),
    MayTake s → s.intake.queue = f :: rest → checkForm f = .ok x → ¬ InWindow s x →
    lookup s.table x.binId = .error i →
    ∃ t, exec .frameTake s = .next t ∧ t.intake.queue = rest ∧ t.intake.taken = s.intake.taken + 1 ∧
      t.intake.state = .stopped ∧ t.intake.inFlight = none ∧ t.table = s.table.put i .damaged ∧
      t.cond.counts = s.cond.counts ∧ t.link = s.link)

/-! ## Readings -/

/-- The fill of a distance, with the worked values of R51 under the power-on profile. -/
def Obligations.FillOfDistance : Prop :=
  (∀ (p : Profile) (d : Nat), p.fullDepth < p.emptyDepth →
    (p.emptyDepth ≤ d → fillOf p d = 0) ∧ (d ≤ p.fullDepth → fillOf p d = 100) ∧
    (p.fullDepth < d → d < p.emptyDepth →
      fillOf p d = 100 * (p.emptyDepth - d) / (p.emptyDepth - p.fullDepth)) ∧
    fillOf p d ≤ 100) ∧
  ([130, 110, 58, 57, 37, 36, 18, 17, 15].map (fillOf .powerOn) = [0, 9, 59, 60, 79, 80, 97, 98, 100])

/-- What a frame does to its bin's record (R47–R56, R60): step 8 for every frame; a LIFT blanks the bin; a reading
within the blanking, or one that jumps by more than the max step, is refused and counted; no echo applies no fill; an
applied fill is counted and moves the state by the thresholds, a bin it leaves NORMAL having no crossing epoch; HEAT and
TAMPER make the bin URGENT where the profile says so. For a state that no run reaches, a BLANKED record without a
blank-until epoch counts as expired, the model's choice (notes/assumptions/16.md, DESIGN CHOICE). -/
def Obligations.ReadingEvaluation : Prop :=
  ∀ (p : Profile) (x : InFlight) (r : BinRecord),
    let y := evaluate p x r
    let quiet := ¬ ((x.sensor.heat = true ∨ x.sensor.tamper = true) ∧ p.eventsUrgent = true)
    let fill := fillOf p x.sensor.distance
    let jump (f : Nat) := p.maxStep < (if f ≤ fill then fill - f else f - fill)
    let blanked := r.state = .blanked ∧
      2147483648 ≤ (x.arrivalEpoch - r.blankUntil.getD x.arrivalEpoch).toNat
    let jumps := (r.state = .normal ∨ r.state = .due ∨ r.state = .urgent) ∧ ∃ f, r.fill = some f ∧ jump f
    let applies := x.sensor.lift = false ∧ ¬ blanked ∧ x.sensor.distance ≠ 4095 ∧ ¬ jumps
    (y.bin.lastSeq = some x.sensor.seq ∧ y.bin.heardEpoch = x.arrivalEpoch ∧ y.bin.lastLane = some x.frame.lane ∧
      y.bin.lastSignal = some x.frame.strength ∧ y.bin.battery = some x.sensor.battery ∧ y.bin.silent = false ∧
      y.clearedSilent = r.silent) ∧
    (y.bin.binId = r.binId ∧ y.bin.kind = r.kind ∧ y.bin.round = r.round ∧ y.bin.profile = r.profile) ∧
    (y.bin.heat = (r.heat || x.sensor.heat) ∧ y.bin.tamper = (r.tamper || x.sensor.tamper) ∧
      y.bin.lowBattery = (r.lowBattery || x.sensor.lowBattery)) ∧
    (x.sensor.lift = true → y.bin.fill = r.fill ∧ y.bin.applied = r.applied ∧ y.bin.refused = r.refused ∧
      y.bin.placement = .none ∧ y.blankedRead = false ∧ y.stepJump = false ∧ y.overfill = false ∧
      (quiet → y.bin.state = .blanked ∧ y.bin.crossing = none ∧
        y.bin.blankUntil = some (x.arrivalEpoch + BitVec.ofNat 32 p.blankEpochs))) ∧
    (x.sensor.lift = false → y.bin.placement = r.placement) ∧
    (x.sensor.lift = false → blanked → y.blankedRead = true ∧ y.bin.fill = r.fill ∧ y.bin.applied = r.applied ∧
      y.bin.refused = satInc16 r.refused ∧
      (quiet → y.bin.state = .blanked ∧ y.bin.blankUntil = r.blankUntil)) ∧
    (x.sensor.lift = false → ¬ blanked → x.sensor.distance = 4095 →
      y.bin.fill = r.fill ∧ y.bin.applied = r.applied ∧ y.bin.refused = r.refused ∧ y.stepJump = false ∧
      (quiet → y.bin.state = if r.state = .unseen then .normal else r.state)) ∧
    (x.sensor.lift = false → ¬ blanked → x.sensor.distance ≠ 4095 → jumps →
      y.stepJump = true ∧ y.bin.fill = r.fill ∧ y.bin.applied = r.applied ∧ y.bin.refused = satInc16 r.refused ∧
      (quiet → y.bin.state = r.state)) ∧
    (applies → y.bin.fill = some fill ∧ y.bin.applied = satInc16 r.applied ∧ y.bin.refused = r.refused ∧
      y.blankedRead = false ∧ y.stepJump = false ∧ (y.overfill = true ↔ p.overflow ≤ fill) ∧
      (y.bin.state = .normal → y.bin.crossing = none) ∧
      (p.overflow ≤ fill → y.bin.state = .urgent) ∧
      (quiet → fill < p.overflow →
        y.bin.state =
          if r.state = .urgent then .urgent
          else if r.state = .due then (if fill < p.clear then .normal else .due)
          else if p.raise ≤ fill then .due else .normal)) ∧
    (¬ quiet → y.bin.state = .urgent) ∧
    (r.state = .due ∨ r.state = .urgent → r.crossing.isSome → x.sensor.lift = false → p.clear ≤ fill →
      y.bin.crossing = r.crossing) ∧
    (r.state ≠ .due → r.state ≠ .urgent → r.crossing = none → y.bin.state = .due ∨ y.bin.state = .urgent →
      y.bin.crossing = some x.arrivalEpoch)

/-- APPLY_CLAIM of a frame whose slot verifies (R47, R57, R58, R61): the Serve of a LIFT, then what falls between, then
a Place of class DUE or URGENT in those final states, a Withdraw if the bin left DUE without LIFT or was Silent, else
nothing; the record is written with its placement, the conditions are disposed of in kind order, and the frame ends.
With no condition and nothing waiting on the frame's end intake keeps its state and the link stands. What falls between
is taken as at any other time (R107, R136, R185; what may fall there: notes/assumptions/21.md). The claim begins by
verifying: a failed check code stops the part and ends the frame with its conditions discarded, also where a new record
stands in the slot of a dropped one (R24, R39, R47, R64; that the two meet so is notes/assumptions/26.md, DEDUCED); a
dropped record else refuses the frame with NO_BIN; a slot another claim has damaged gives one of the two ends (open,
notes/assumptions/12.md); without a frame in flight
nothing happens. FRAME_TAKE of a frame bad in form refuses it under any action (R21, R63–R72). How the frame's end
treats a HOLD action, a waiting HOLD or STEP, and a relay: R8, R10–R12, R180. Where a Place finds the
displaced bin's check code failed, intake enters STOPPED after the frame's end (R59); the model's own of it is that a
HOLD action takes effect at that end, before STOPPED, and a pending HOLD request or the cause STEP does not
(notes/assumptions/22.md, DEDUCED). -/
def Obligations.ApplyClaimEndsFrame : Prop :=
  (∀ (s : State) (x : InFlight) (r : BinRecord) (between : List Between), s.rstLow = false →
    s.intake.inFlight = some x → x.dropped = false → s.table.get x.slot = .live r 0 →
    let y := evaluate (Vec.get s.profiles r.profile) x r
    let served := if x.sensor.lift = true then detach s x.slot .served else s
    let u := between.foldl takeBetween served
    let written (t : State) (p : Placement) := t.setTable (t.table.put x.slot (.live { y.bin with placement := p } 0))
    let disposed (t : State) (p : Placement) (failed : Bool) :=
      allDisposedOf (written t p) x.frame ((conditionKinds x y failed).map fun k => (k, .bin x.sensor.binId))
    let ended (t : State) (p : Placement) (failed : Bool) :=
      if u.intake.state ≠ .stopped ∧ t.intake.state = .stopped then frameOverThenStopped (disposed t p failed)
      else frameOver (disposed t p failed) x.frame.lane 0xFF
    let withdraws := (r.state = .due ∧ x.sensor.lift = false) ∨ r.silent = true
    let places (c : EntryClass) :=
      exec (.applyClaim between) s = .next (ended (place u x.slot y.bin c).1
        (if (place u x.slot y.bin c).2 = .noRound then y.bin.placement
          else if (place u x.slot y.bin c).2 = .failed then .unplaced else .placed)
        (decide ((place u x.slot y.bin c).2 = .failed)))
    (y.bin.state = .due → places .due) ∧ (y.bin.state = .urgent → places .urgent) ∧
    (y.bin.state ≠ .due → y.bin.state ≠ .urgent → withdraws →
      exec (.applyClaim between) s = .next (ended (detach u x.slot .withdrawn) .none false)) ∧
    (y.bin.state ≠ .due → y.bin.state ≠ .urgent → ¬ withdraws →
      exec (.applyClaim between) s = .next (ended u y.bin.placement false)) ∧
    (∀ t p failed, conditionKinds x y failed = [] → t.intake.holdWaiting = none →
      (∀ tag, t.link.handler ≠ .holdWaiting tag ∧ t.link.handler ≠ .stepWaiting tag) →
      ended t p failed = (written t p).setIntake { t.intake with
        queue := t.intake.queue.tail, taken := t.intake.taken + 1, inFlight := none })) ∧
  (∀ u : State, u.rstLow = false →
    (∀ n, n < 64 → exec (.cutoffEvent n) u = .next (takeBetween u (.event (.cutoff n)))) ∧
    (∀ n, n < 4 → exec (.drawTimerExpiry n) u = .next (takeBetween u (.event (.expiry n)))) ∧
    exec .requestTake u = .next (takeBetween u .requestTake) ∧
    (∀ items, exec (.status items) u = .next (takeBetween u (.statusRead items))) ∧
    ((∀ r, u.link.handler = .taken r → r.code.toNat ∉ [0x40, 0x41, 0x43, 0x45, 0x70, 0x71, 0x72]) →
      takeBetween u .sheetRequest = u) ∧
    ∀ r, u.link.handler = .taken r →
      (r.code = 0x40#8 → exec .bind u = .next (takeBetween u .sheetRequest)) ∧
      (r.code = 0x41#8 → exec .unbind u = .next (takeBetween u .sheetRequest)) ∧
      (r.code = 0x43#8 → exec .rewind u = .next (takeBetween u .sheetRequest)) ∧
      (r.code = 0x45#8 → exec .portGet u = .next (takeBetween u .sheetRequest)) ∧
      (r.code = 0x70#8 → exec .roundPut u = .next (takeBetween u .sheetRequest)) ∧
      (r.code = 0x71#8 → exec .roundGet u = .next (takeBetween u .sheetRequest)) ∧
      (r.code = 0x72#8 → exec .cutoffNow u = .next (takeBetween u .sheetRequest))) ∧
  (∀ (s : State) (x : InFlight) (between : List Between), s.rstLow = false → s.intake.inFlight = some x →
    let refused := frameOver (allDisposedOf s x.frame [(.noBin, .bin x.sensor.binId)]) x.frame.lane 3
    (∀ r c, s.table.get x.slot = .live r c → c ≠ 0 →
      exec (.applyClaim between) s = .next (frameOver (storeError s x.slot) x.frame.lane 0xFF)) ∧
    (x.dropped = true → (∀ r c, s.table.get x.slot = .live r c → c = 0) →
      exec (.applyClaim between) s = .next refused) ∧
    (x.dropped = false → (s.table.get x.slot).isLive = false →
      exec (.applyClaim between) s = .next refused ∨
      exec (.applyClaim between) s = .next (frameOver s x.frame.lane 0xFF))) ∧
  (∀ (s : State) (between : List Between), s.rstLow = false → s.intake.inFlight = none →
    exec (.applyClaim between) s = .next s) ∧
  (∀ (s : State) (f : LaneFrame) (rest : List LaneFrame) (k : Kind), MayTake s → s.intake.queue = f :: rest →
    checkForm f = .error k →
    exec .frameTake s = .next (frameOver (allDisposedOf s f [(k, .lane f.lane)]) f.lane (byte k.idx.val)))

/-- PROFILE PUT writes one profile when its ten fields agree with their ranges, and is refused with no change
otherwise and in STOPPED; PROFILE GET returns the 14 bytes of one profile in every intake state (R42, R43, R45). -/
def Obligations.ProfilePutAndGet : Prop :=
  (∀ (s : State) (tag : Word16) (n e0 e1 f0 f1 ra cl ov st bl s0 s1 ck ev : Byte),
    Asked s 0x30 tag [n, e0, e1, f0, f1, ra, cl, ov, st, bl, s0, s1, ck, ev] →
    let good := n.toNat ≤ 15 ∧ 20 ≤ (e0 ++ e1).toNat ∧ (e0 ++ e1).toNat ≤ 400 ∧
      (f0 ++ f1).toNat + 10 ≤ (e0 ++ e1).toNat ∧ 1 ≤ ra.toNat ∧ ra.toNat ≤ 100 ∧ cl.toNat < ra.toNat ∧
      ra.toNat ≤ ov.toNat ∧ ov.toNat ≤ 100 ∧ 1 ≤ st.toNat ∧ st.toNat ≤ 100 ∧ 1 ≤ (s0 ++ s1).toNat ∧
      ck.toNat ≤ 1 ∧ ev.toNat ≤ 1
    (s.intake.state = .stopped → exec .profilePut s = .next (answeredWith s 0x30 tag 8 [])) ∧
    (s.intake.state ≠ .stopped → ¬ good → exec .profilePut s = .next (answeredWith s 0x30 tag 2 [])) ∧
    (s.intake.state ≠ .stopped → good → ∀ m : Fin 16, m.val = n.toNat →
      exec .profilePut s = .next (answeredWith (s.setProfiles (Vec.put s.profiles m
        ⟨(e0 ++ e1).toNat, (f0 ++ f1).toNat, ra.toNat, cl.toNat, ov.toNat, st.toNat, bl.toNat, (s0 ++ s1).toNat,
          decide (ck = 1#8), decide (ev = 1#8)⟩)) 0x30 tag 0 [n]))) ∧
  (∀ (s : State) (tag : Word16) (n : Byte), Asked s 0x31 tag [n] →
    (15 < n.toNat → exec .profileGet s = .next (answeredWith s 0x31 tag 2 [])) ∧
    (∀ m : Fin 16, m.val = n.toNat →
      let p := Vec.get s.profiles m
      exec .profileGet s = .next (answeredWith s 0x31 tag 0
        ([n] ++ be16 p.emptyDepth ++ be16 p.fullDepth ++ [byte p.raise, byte p.clear, byte p.overflow, byte p.maxStep,
          byte p.blankEpochs] ++ be16 p.silenceLimit ++ [if p.checkOnSilence then 1 else 0,
          if p.eventsUrgent then 1 else 0]))))

/-! ## Conditions -/

/-- A group T condition is counted once under every action. NOTE sets the status with its subject and since-count,
HOLD does so and holds intake, DEFER puts the occurrence aside, RECORD and RELAY do no more (R63, R67–R72). -/
def Obligations.ConditionActions : Prop :=
  ∀ (s : State) (k : Kind) (x : Subject),
    let c := Vec.get s.notices.conds k.idx
    let noted := { s.notices with
      conds := Vec.put s.notices.conds k.idx
        ⟨true, some x, if c.set = true then satAdd32 c.since 1 else 1⟩,
      list := joined s.notices (.cond k) }
    (s.cond.action k = .record ∨ s.cond.action k = .relay → raiseT s k x = s.setCond (counted s.cond k)) ∧
    (s.cond.action k = .note → raiseT s k x = (s.setCond (counted s.cond k)).setNotices noted) ∧
    (s.cond.action k = .defer → raiseT s k x = s.setCond { counted s.cond k with
      deferred := Vec.put s.cond.deferred k.idx ⟨satAdd32 (Vec.get s.cond.deferred k.idx).count 1, some x⟩ }) ∧
    (s.cond.action k = .hold → s.intake.state = .stopped →
      raiseT s k x = (s.setCond (counted s.cond k)).setNotices noted) ∧
    (s.cond.action k = .hold → s.intake.state ≠ .stopped → s.intake.inFlight ≠ none →
      raiseT s k x = ((s.setCond (counted s.cond k)).setNotices noted).setIntake
        { s.intake with holdWaiting := some k }) ∧
    (s.cond.action k = .hold → s.intake.state ≠ .stopped → s.intake.inFlight = none →
      raiseT s k x = ((s.setCond (counted s.cond k)).setNotices { noted with
        held := { s.notices.held with set := true }, heldCause := some (.kind k),
        list := joined noted .held }).setIntake { s.intake with state := .held (.kind k) })

/-- RULE PUT writes a row in every intake state; a changed row whose kind has deferred occurrences is re-examined:
they are given up under RECORD and RELAY, noted under NOTE, kept under DEFER, and under HOLD noted with intake held,
at once or, with a frame in flight, waiting on that frame's end; the answer carries the deferred count that is left. A
kind above 17 or a byte that names no action is out of range (R11, R66, R73, R74, R79). -/
def Obligations.RulePutReexamines : Prop :=
  (∀ (s : State) (tag : Word16) (kind a u : Byte), Asked s 0x60 tag [kind, a, u] →
    17 < kind.toNat ∨ 4 < a.toNat ∨ 4 < u.toNat → exec .rulePut s = .next (answeredWith s 0x60 tag 2 [])) ∧
  (∀ (s : State) (tag : Word16) (k : Kind) (a u : Action), Asked s 0x60 tag [byte k.idx.val, a.code, u.code] →
    let d := Vec.get s.cond.deferred k.idx
    let written := { s.cond with rows := Vec.put s.cond.rows k.idx ⟨a, u⟩ }
    let emptied := { written with deferred := Vec.put s.cond.deferred k.idx ⟨0, none⟩ }
    let now := if Vec.get s.cond.mask k.idx = true then a else u
    let st := Vec.get s.notices.conds k.idx
    let noted := { s.notices with
      conds := Vec.put s.notices.conds k.idx
        ⟨true, d.subject, if st.set = true then satAdd32 st.since d.count else d.count⟩,
      list := joined s.notices (.cond k) }
    let data (n : Word32) := [byte k.idx.val] ++ be32 n.toNat
    (Vec.get s.cond.rows k.idx = ⟨a, u⟩ →
      exec .rulePut s = .next (answeredWith s 0x60 tag 0 (data d.count))) ∧
    (Vec.get s.cond.rows k.idx ≠ ⟨a, u⟩ → d.count = 0 ∨ now = .defer →
      exec .rulePut s = .next (answeredWith (s.setCond written) 0x60 tag 0 (data d.count))) ∧
    (Vec.get s.cond.rows k.idx ≠ ⟨a, u⟩ → d.count ≠ 0 → now = .record ∨ now = .relay →
      exec .rulePut s = .next (answeredWith (s.setCond emptied) 0x60 tag 0 (data 0))) ∧
    (Vec.get s.cond.rows k.idx ≠ ⟨a, u⟩ → d.count ≠ 0 → now = .note ∨ (now = .hold ∧ s.intake.state = .stopped) →
      exec .rulePut s = .next (answeredWith ((s.setCond emptied).setNotices noted) 0x60 tag 0 (data 0))) ∧
    (Vec.get s.cond.rows k.idx ≠ ⟨a, u⟩ → d.count ≠ 0 → now = .hold → s.intake.state ≠ .stopped →
      s.intake.inFlight = none →
      exec .rulePut s = .next (answeredWith (((s.setCond emptied).setNotices { noted with
        held := { s.notices.held with set := true }, heldCause := some (.kind k), list := joined noted .held }).setIntake
        { s.intake with state := .held (.kind k) }) 0x60 tag 0 (data 0))) ∧
    (Vec.get s.cond.rows k.idx ≠ ⟨a, u⟩ → d.count ≠ 0 → now = .hold → s.intake.state ≠ .stopped →
      s.intake.inFlight ≠ none →
      exec .rulePut s = .next (answeredWith (((s.setCond emptied).setNotices noted).setIntake
        { s.intake with holdWaiting := some k }) 0x60 tag 0 (data 0))))

/-- R80: RULE GET. -/
def Obligations.RuleGetReturnsRow : Prop :=
  ∀ (s : State) (tag : Word16) (kind : Byte), Asked s 0x61 tag [kind] →
    (∀ k : Kind, k.idx.val = kind.toNat →
      exec .ruleGet s = .next (answeredWith s 0x61 tag 0
        [(Vec.get s.cond.rows k.idx).armed.code, (Vec.get s.cond.rows k.idx).unarmed.code,
          if Vec.get s.cond.mask k.idx = true then 1 else 0])) ∧
    (kind.toNat = 18 → exec .ruleGet s = .next (answeredWith s 0x61 tag 0 [5, 5, 1])) ∧
    (18 < kind.toNat → exec .ruleGet s = .next (answeredWith s 0x61 tag 2 []))

/-- MASK PUT writes all 18 settings together, bit k for kind k, and re-examines each kind whose setting changed and
whose deferred count is above 0, in kind order; a kind whose setting is written unchanged keeps its deferred
occurrences and its status; with none deferred only the mask changes; a bit above 17 is out of range. CONDITION READ
returns the whole Condition Unit, and its clear option zeroes the 19 occurrence counters after the reading (R67, R74,
R81, R82). -/
def Obligations.MaskPutAndConditionRead : Prop :=
  (∀ (s : State) (tag : Word16) (a b c : Byte), Asked s 0x62 tag [a, b, c] →
    let m : Vector Bool 18 := Vector.ofFn fun k : Fin 18 => (a ++ b ++ c).getLsbD k.val
    let changed := allKinds.filter fun k => decide (Vec.get s.cond.mask k.idx ≠ Vec.get m k.idx)
    let t := changed.foldl reexamined (s.setCond { s.cond with mask := m })
    (4 ≤ a.toNat → exec .maskPut s = .next (answeredWith s 0x62 tag 2 [])) ∧
    (a.toNat < 4 → exec .maskPut s = .next (answeredWith t 0x62 tag 0 [])) ∧
    (∀ k : Kind, Vec.get s.cond.mask k.idx = Vec.get m k.idx →
      Vec.get t.cond.deferred k.idx = Vec.get s.cond.deferred k.idx ∧
      Vec.get t.notices.conds k.idx = Vec.get s.notices.conds k.idx) ∧
    t.cond.mask = m ∧ t.cond.counts = s.cond.counts ∧ t.cond.rows = s.cond.rows ∧
    t = ((s.setCond t.cond).setNotices t.notices).setIntake t.intake ∧
    ((∀ k : Kind, (Vec.get s.cond.deferred k.idx).count = 0) → t = s.setCond { s.cond with mask := m })) ∧
  (∀ (s : State) (tag : Word16) (clear : Byte), Asked s 0x63 tag [clear] →
    let data :=
      (allKinds.flatMap fun k => be32 (Vec.get s.cond.counts k.idx).toNat) ++ be32 s.cond.storeErrors.toNat ++
      (allKinds.flatMap fun k => be32 (Vec.get s.cond.deferred k.idx).count.toNat ++
        subjectBytes (Vec.get s.cond.deferred k.idx).subject) ++
      slotBytes s.cond.latestSlot ++ maskBytes s.cond.mask ++
      allKinds.flatMap fun k =>
        [(Vec.get s.cond.rows k.idx).armed.code, (Vec.get s.cond.rows k.idx).unarmed.code]
    (1 < clear.toNat → exec .conditionRead s = .next (answeredWith s 0x63 tag 2 [])) ∧
    (clear = 0#8 → exec .conditionRead s = .next (answeredWith s 0x63 tag 0 data)) ∧
    (clear = 1#8 → exec .conditionRead s = .next (answeredWith
      (s.setCond { s.cond with counts := Vector.replicate 18 0, storeErrors := 0 }) 0x63 tag 0 data)))

/-! ## Time -/

/-- A tick with no epoch end outstanding and no storage failure: the tick counter, the elapsed count and the Day Clock
advance, an epoch end or a minute change is handed over, window entries older than the hold go, the timers of ports
that read a side advance and may expire, and nothing else changes (R16, R84–R86, R92, R151). That an epoch end is owed
until EPOCH_END takes it, and that an idle count stands still while its expiry is owed, is the model's reading
(notes/assumptions/6.md); a tick that finds an epoch end still owed is left out here. A storage failure is the model's
operand of the tick (notes/assumptions/5.md): it changes the check code of a LIVE slot and nothing else of the table
(R24). -/
def Obligations.TickAdvancesTime : Prop :=
  (∀ s : State, s.rstLow = false → s.time.epochEndOwed = false → ∃ t, exec (.tick []) s = .next t ∧
    t.time.tick = s.time.tick + 1 ∧ t.time.epoch = s.time.epoch ∧ t.time.elapsed = s.time.elapsed + 1 ∧
    (t.time.epochEndOwed = true ↔ s.time.period ≤ s.time.elapsed + 1) ∧
    (s.time.second < 59 → t.time.second = s.time.second + 1 ∧ t.time.minute = s.time.minute ∧
      t.time.day = s.time.day ∧ t.time.minuteChangesOwed = s.time.minuteChangesOwed) ∧
    (s.time.second = 59 → s.time.minute < 1439 → t.time.second = 0 ∧ t.time.minute = s.time.minute + 1 ∧
      t.time.day = s.time.day ∧
      t.time.minuteChangesOwed = s.time.minuteChangesOwed ++ [(s.time.minute + 1, s.time.day)]) ∧
    (s.time.second = 59 → s.time.minute = 1439 → t.time.second = 0 ∧ t.time.minute = 0 ∧
      (s.time.day < 65535 → t.time.day = s.time.day + 1) ∧ (s.time.day = 65535 → t.time.day = 0) ∧
      t.time.minuteChangesOwed = s.time.minuteChangesOwed ++ [(0, t.time.day)]) ∧
    t.time.period = s.time.period ∧ t.time.interval = s.time.interval ∧ t.time.postCount = s.time.postCount ∧
    t.time.triggersOwed = s.time.triggersOwed ∧ t.time.cutoffsOwed = s.time.cutoffsOwed ∧
    t.intake = { s.intake with
      window := s.intake.window.filter fun e =>
        decide ((s.time.tick + 1 - e.arrivalTick).toNat ≤ s.intake.dedupHold) } ∧
    (∀ p, notReading (s.port p) ∨ s.drawTimeout = 0 ∨ (s.port p).expiryOwed = true → t.port p = s.port p) ∧
    (∀ p, ¬ notReading (s.port p) → s.drawTimeout ≠ 0 → (s.port p).expiryOwed = false →
      t.port p = { s.port p with
        idle := (s.port p).idle + 1, expiryOwed := decide (s.drawTimeout ≤ (s.port p).idle + 1) }) ∧
    t = ((s.setTime t.time).setIntake t.intake).setPorts t.ports) ∧
  (∀ (s : State) (i : Nat) (c : Word16), s.rstLow = false → s.table.wf → ∃ t, exec (.tick [(i, c)]) s = .next t ∧
    (∀ r old, s.table.get i = .live r old → t.table.get i = .live r (old ^^^ c)) ∧
    ((s.table.get i).isLive = false → t.table = s.table) ∧ ∀ j, j ≠ i → t.table.get j = s.table.get j)

/-- EPOCH_END: the epoch number advances, the elapsed count is 0, and the postscaler counts the end: with interval 0
nothing, below the interval one more, at the interval a trigger and 0. SWEEP_TRIGGER: a sweep starts when IDLE, an
overlap is counted when RUNNING, the trigger is skipped in STOPPED, and in a RESTART whose step 2, the sweep's own, is
done (R86, R90, R159, R160, R174). The model's reading: that an epoch end and the triggers stand owed until their rows
take them (notes/assumptions/6.md), and the steps of a RESTART (notes/assumptions/8.md, both DEDUCED); that neither row
does anything with nothing owed is its choice (notes/assumptions/1.md, DESIGN CHOICE). -/
def Obligations.EpochEndAndTrigger : Prop :=
  (∀ s : State, s.rstLow = false →
    (s.time.epochEndOwed = false → exec .epochEnd s = .next s) ∧
    (s.time.epochEndOwed = true →
      let ended := { s.time with epoch := s.time.epoch + 1, elapsed := 0, epochEndOwed := false }
      (s.time.interval = 0 → exec .epochEnd s = .next (s.setTime ended)) ∧
      (s.time.postCount + 1 < s.time.interval →
        exec .epochEnd s = .next (s.setTime { ended with postCount := s.time.postCount + 1 })) ∧
      (s.time.interval ≠ 0 → s.time.interval ≤ s.time.postCount + 1 →
        exec .epochEnd s = .next (s.setTime
          { ended with postCount := 0, triggersOwed := s.time.triggersOwed + 1 })))) ∧
  (∀ s : State, s.rstLow = false →
    (s.time.triggersOwed = 0 → exec .sweepTrigger s = .next s) ∧
    (∀ n, s.time.triggersOwed = n + 1 →
      let taken := s.setTime { s.time with triggersOwed := n }
      let restarted := ∃ tag done lost, s.link.handler = .restarting tag done lost ∧ 2 ≤ done
      (s.intake.state = .stopped ∨ restarted → exec .sweepTrigger s = .next taken) ∧
      (s.intake.state ≠ .stopped → ¬ restarted → s.sweep.running = true →
        exec .sweepTrigger s = .next (taken.setSweep { s.sweep with overlaps := s.sweep.overlaps + 1 })) ∧
      (s.intake.state ≠ .stopped → ¬ restarted → s.sweep.running = false →
        exec .sweepTrigger s = .next (taken.setSweep
          ⟨true, 8191, some s.time.epoch, none, 0, 0, 0, 0, s.sweep.overlaps⟩))))

/-- MINUTE_CHANGE: the oldest minute change owed is compared with every round's record as it stands, and a cut-off
event is handed over for exactly the rounds that are enabled, have that cut-off minute, and whose postscaler and phase
select that day (R93, R94). That minute changes are owed in a list and taken oldest first is the model's reading
(notes/assumptions/6.md); that the command changes nothing with none owed is its choice (notes/assumptions/1.md). -/
def Obligations.MinuteChangeMakesCutoffs : Prop :=
  (∀ (s : State) (m d : Nat) (rest : List (Nat × Nat)), s.rstLow = false →
    s.time.minuteChangesOwed = (m, d) :: rest →
    ∃ made, exec .minuteChange s = .next (s.setTime { s.time with
        minuteChangesOwed := rest, cutoffsOwed := s.time.cutoffsOwed ++ made }) ∧ made.Nodup ∧
      ∀ q, q ∈ made ↔ (s.round q).enabled = true ∧ (s.round q).cutoffMinute = m ∧
        d % (s.round q).postscaler = (s.round q).phase) ∧
  (∀ s : State, s.rstLow = false → s.time.minuteChangesOwed = [] → exec .minuteChange s = .next s)

/-- CLOCK SET replaces minute and day, sets second 0 and makes no cut-off event; a minute above 1439 is out of range.
TIME GET returns the clocks, the last tick whole (R95, R97), and changes nothing: an epoch end that tick left owed,
which is the model's reading, is taken as EPOCH_END would take it (R85, R86; notes/assumptions/6.md). -/
def Obligations.ClockSetAndTimeGet : Prop :=
  (∀ (s : State) (tag : Word16) (m0 m1 d0 d1 : Byte), Asked s 0x50 tag [m0, m1, d0, d1] →
    (1439 < (m0 ++ m1).toNat → exec .clockSet s = .next (answeredWith s 0x50 tag 2 [])) ∧
    ((m0 ++ m1).toNat ≤ 1439 →
      exec .clockSet s = .next (answeredWith (s.setTime { s.time with
        second := 0, minute := (m0 ++ m1).toNat, day := (d0 ++ d1).toNat }) 0x50 tag 0 [m0, m1, d0, d1]))) ∧
  (∀ (s : State) (tag : Word16), Asked s 0x51 tag [] →
    let data (epoch : Word32) (elapsed count : Nat) :=
      be32 s.time.tick.toNat ++ be32 epoch.toNat ++ be16 elapsed ++ be16 s.time.period ++
      [byte s.time.interval, byte count, byte s.time.second] ++ be16 s.time.minute ++ be16 s.time.day
    (s.time.epochEndOwed = false →
      exec .timeGet s = .next (answeredWith s 0x51 tag 0 (data s.time.epoch s.time.elapsed s.time.postCount))) ∧
    (s.time.epochEndOwed = true →
      let ended := { s.time with epoch := s.time.epoch + 1, elapsed := 0, epochEndOwed := false }
      let t :=
        if s.time.interval = 0 then ended
        else if s.time.interval ≤ s.time.postCount + 1 then
          { ended with postCount := 0, triggersOwed := s.time.triggersOwed + 1 }
        else { ended with postCount := s.time.postCount + 1 }
      exec .timeGet s = .next (answeredWith (s.setTime t) 0x51 tag 0 (data (s.time.epoch + 1) 0 t.postCount)) ∧
      exec .epochEnd s = .next (s.setTime t)))

/-- SETTING PUT of the five items stores or refuses the value as its owner's rule says and answers with the value
stored; any other item is out of range; SETTING GET returns a value and changes nothing; both in every intake state
(R3, R16, R88, R91, R153, R187). -/
def Obligations.SettingsAreStored : Prop :=
  (∀ (s : State) (tag : Word16) (h l : Byte),
    let v := (h ++ l).toNat
    let stored (t : State) (item : Byte) (n : Nat) :=
      Host.Outcome.next (φ := Fault) (ρ := Refusal) (answeredWith t 0x92 tag 0 ([item] ++ be16 n))
    let refused : Result := .next (answeredWith s 0x92 tag 2 [])
    (Asked s 0x92 tag [1, h, l] →
      (15 < v → exec .laneEnable s = refused) ∧
      (v ≤ 15 → ∃ t, exec .laneEnable s = stored t 1 v ∧ t = s.setLanes t.lanes ∧
        ∀ n : Fin 4, t.lane n = { s.lane n with enabled := l.getLsbD n.val })) ∧
    (Asked s 0x92 tag [2, h, l] →
      (v = 0 ∨ 60 < v → exec .dedupHold s = refused) ∧
      (1 ≤ v → v ≤ 60 → exec .dedupHold s = stored (s.setIntake { s.intake with dedupHold := v }) 2 v)) ∧
    (Asked s 0x92 tag [3, h, l] →
      (3600 < v → exec .epochPeriod s = refused) ∧
      (v < 10 → exec .epochPeriod s = stored (s.setTime { s.time with period := 10 }) 3 10) ∧
      (10 ≤ v → v ≤ 3600 → exec .epochPeriod s = stored (s.setTime { s.time with period := v }) 3 v)) ∧
    (Asked s 0x92 tag [4, h, l] →
      (16 < v → exec .sweepInterval s = refused) ∧
      (v ≤ 16 → exec .sweepInterval s = stored (s.setTime { s.time with interval := v, postCount := 0 }) 4 v)) ∧
    (Asked s 0x92 tag [5, h, l] →
      (3600 < v → exec .drawIdleLimit s = refused) ∧
      (v = 0 → exec .drawIdleLimit s = stored (s.setDrawTimeout 0) 5 0) ∧
      (1 ≤ v → v < 10 → exec .drawIdleLimit s = stored (s.setDrawTimeout 10) 5 10) ∧
      (10 ≤ v → v ≤ 3600 → exec .drawIdleLimit s = stored (s.setDrawTimeout v) 5 v))) ∧
  (∀ (s : State) (tag : Word16) (i h l : Byte), Asked s 0x92 tag [i, h, l] → i.toNat = 0 ∨ 5 < i.toNat →
    exec .settingPutUnknownItem s = .next (answeredWith s 0x92 tag 2 [])) ∧
  (∀ (s : State) (tag : Word16) (i : Byte), Asked s 0x93 tag [i] →
    (i.toNat = 0 ∨ 5 < i.toNat → exec .settingGet s = .next (answeredWith s 0x93 tag 2 [])) ∧
    (i = 1#8 → exec .settingGet s = .next (answeredWith s 0x93 tag 0 [1, 0, bits [(s.lane 0).enabled,
      (s.lane 1).enabled, (s.lane 2).enabled, (s.lane 3).enabled]])) ∧
    (i = 2#8 → exec .settingGet s = .next (answeredWith s 0x93 tag 0 ([2] ++ be16 s.intake.dedupHold))) ∧
    (i = 3#8 → exec .settingGet s = .next (answeredWith s 0x93 tag 0 ([3] ++ be16 s.time.period))) ∧
    (i = 4#8 → exec .settingGet s = .next (answeredWith s 0x93 tag 0 ([4] ++ be16 s.time.interval))) ∧
    (i = 5#8 → exec .settingGet s = .next (answeredWith s 0x93 tag 0 ([5] ++ be16 s.drawTimeout))))

/-! ## Rounds and sheets -/

/-- A cut-off event, taken from the clock by CUTOFF_EVENT or made by CUTOFF NOW: with the other side FREE the FILL side
is sealed, or an empty cut-off counted; with it not FREE the cut-off is held, with LATE set and CUTOFF_HELD raised.
A bound port opens the sealed side at once. CUTOFF NOW reports its outcome, and is refused in STOPPED and above round
63 (R122–R126, R128). That CUTOFF_EVENT takes one of the events the clock handed over is the model's reading
(notes/assumptions/6.md); that it changes nothing for a round with none owed is its choice (notes/assumptions/1.md). -/
def Obligations.CutoffOutcomes : Prop :=
  (∀ (s : State) (q : Fin 64),
    let x := s.round q
    let sealing := { x with
      fillSide := (match x.fillSide with | .a => .b | .b => .a), fill := [], otherState := .sealed, other := x.fill,
      lastCutoff := some s.time.epoch }
    let ready := roundSet s.notices q .ready
    (x.otherState = .free → x.fill = [] → x.sealEmpty = false →
      cutoff s q = (s.setEmptyCutoffs (s.emptyCutoffs + 1), .empty)) ∧
    (x.otherState = .free → x.fill ≠ [] ∨ x.sealEmpty = true → x.bound = none →
      cutoff s q = ((s.setRound q sealing).setNotices ready, .sealed x.fill.length false)) ∧
    (∀ p, x.otherState = .free → x.fill ≠ [] → x.bound = some p →
      cutoff s q =
        (((s.setRound q { sealing with otherState := .opened }).setPort p ⟨.reading q, 0, 0, false⟩).setNotices ready,
          .sealed x.fill.length true)) ∧
    (∀ p, x.otherState = .free → x.fill = [] → x.sealEmpty = true → x.bound = some p →
      cutoff s q =
        (((s.setRound q { sealing with otherState := .spent }).setPort p ⟨.exhausted q, 0, 0, false⟩).setNotices
          (roundSet ready q .emptied), .sealed 0 true)) ∧
    (x.otherState ≠ .free →
      ∃ t, cutoff s q = (t, .held) ∧
        t.round q = { x with held := true, missed := if x.held = true then satInc16 x.missed else x.missed } ∧
        (∀ u, u ≠ q → t.round u = s.round u) ∧ (t.notices.roundFlag q .late).set = true ∧
        t.cond.counts = (counted s.cond .cutoffHeld).counts ∧
        t = raiseT ((s.setRounds t.rounds).setNotices (roundSet s.notices q .late)) .cutoffHeld (.round q) ∧
        t = (((s.setRounds t.rounds).setNotices t.notices).setCond t.cond).setIntake t.intake)) ∧
  (∀ (s : State) (q : Fin 64), s.rstLow = false →
    (q ∈ s.time.cutoffsOwed → exec (.cutoffEvent q) s =
      .next (cutoff (s.setTime { s.time with cutoffsOwed := s.time.cutoffsOwed.erase q }) q).1) ∧
    (q ∉ s.time.cutoffsOwed → exec (.cutoffEvent q) s = .next s)) ∧
  (∀ (s : State) (tag : Word16) (b : Byte), Asked s 0x72 tag [b] →
    (s.intake.state = .stopped → exec .cutoffNow s = .next (answeredWith s 0x72 tag 8 [])) ∧
    (s.intake.state ≠ .stopped → 63 < b.toNat → exec .cutoffNow s = .next (answeredWith s 0x72 tag 2 [])) ∧
    (∀ q : Fin 64, s.intake.state ≠ .stopped → q.val = b.toNat →
      (∀ n o, (cutoff s q).2 = .sealed n o → exec .cutoffNow s =
        .next (answeredWith (cutoff s q).1 0x72 tag 0 [1, byte n, if o = true then 1 else 0])) ∧
      ((cutoff s q).2 = .empty → exec .cutoffNow s =
        .next (answeredWith (cutoff s q).1 0x72 tag 0 ([2] ++ be32 (s.emptyCutoffs + 1).toNat))) ∧
      ((cutoff s q).2 = .held → exec .cutoffNow s =
        .next (answeredWith (cutoff s q).1 0x72 tag 0
          ([3] ++ be16 (if (s.round q).held = true then satInc16 (s.round q).missed
            else (s.round q).missed).toNat)))))

/-- ROUND PUT writes the six fields together when they are in range and the cap holds both sides, clearing Held when
it disables the round; else it is refused with no change. ROUND GET returns the round's record, both sides' figures
and its three statuses, and changes nothing (R116–R118). -/
def Obligations.RoundPutAndGet : Prop :=
  (∀ (s : State) (tag : Word16) (b en m0 m1 ps ph cap em : Byte), Asked s 0x70 tag [b, en, m0, m1, ps, ph, cap, em] →
    let good := en.toNat ≤ 1 ∧ em.toNat ≤ 1 ∧ (m0 ++ m1).toNat ≤ 1439 ∧ 1 ≤ ps.toNat ∧ ps.toNat ≤ 7 ∧
      ph.toNat < ps.toNat ∧ 1 ≤ cap.toNat
    (s.intake.state = .stopped → exec .roundPut s = .next (answeredWith s 0x70 tag 8 [])) ∧
    (s.intake.state ≠ .stopped → 63 < b.toNat ∨ ¬ good →
      exec .roundPut s = .next (answeredWith s 0x70 tag 2 [])) ∧
    (∀ q : Fin 64, s.intake.state ≠ .stopped → q.val = b.toNat → good →
      let x := s.round q
      (cap.toNat < x.fill.length ∨ cap.toNat < x.other.length →
        exec .roundPut s = .next (answeredWith s 0x70 tag 2 [])) ∧
      (x.fill.length ≤ cap.toNat → x.other.length ≤ cap.toNat →
        exec .roundPut s = .next (answeredWith (s.setRound q { x with
          enabled := decide (en = 1#8), cutoffMinute := (m0 ++ m1).toNat, postscaler := ps.toNat, phase := ph.toNat,
          cap := cap.toNat, sealEmpty := decide (em = 1#8), held := if en = 0#8 then false else x.held }) 0x70 tag 0
          (match x.fillSide with
            | .a => [b, byte x.fill.length, byte x.other.length]
            | .b => [b, byte x.other.length, byte x.fill.length]))))) ∧
  (∀ (s : State) (tag : Word16) (b : Byte), Asked s 0x71 tag [b] →
    (63 < b.toNat → exec .roundGet s = .next (answeredWith s 0x71 tag 2 [])) ∧
    (∀ q : Fin 64, q.val = b.toNat →
      let x := s.round q
      let f := Vec.get s.notices.rounds q
      let side (code : Byte) (l : List Entry) :=
        let n (e : EntryClass) := byte (l.filter fun y => y.mark = .none ∧ y.cls = e).length
        [code, byte l.length, byte (l.filter fun y => y.mark ≠ .none).length, n .urgent, n .due, n .check]
      let sides := match x.fillSide with
        | .a => [0] ++ side 0 x.fill ++ side x.otherState.code x.other
        | .b => [1] ++ side x.otherState.code x.other ++ side 0 x.fill
      exec .roundGet s = .next (answeredWith s 0x71 tag 0
        ([if x.enabled then 1 else 0] ++ be16 x.cutoffMinute ++ [byte x.postscaler, byte x.phase, byte x.cap,
          if x.sealEmpty then 1 else 0] ++ sides ++ [if x.held then 1 else 0] ++ be16 x.missed.toNat ++
          be16 x.displaced.toNat ++ [if x.lastCutoff.isSome then 1 else 0] ++ epochBytes x.lastCutoff ++
          [indexByte x.bound, bits [f.ready.set, f.emptied.set, f.late.set],
            bits [f.ready.enabled, f.emptied.enabled, f.late.enabled]]))))

/-- Place, Serve and Withdraw for the bin of a slot. Place (R104, R108–R112): with no round nothing; an unmarked entry
of lower class on a FILL or SEALED side is upgraded as R109 says and put after the last entry of its new class, and is
left alone when its class is not lower or its side is being read; with none, an entry is added to the FILL side of the
bin's round after the last entry of its class, at cap only by displacing a last entry of strictly lower class, whose
good slot becomes UNPLACED, or whose failed check code stops the part while the Place completes (R24, R59), and else
the Place fails and changes nothing. Serve and Withdraw (R113, R114): the unmarked entry leaves a FILL or SEALED side
and its pool slot is freed; on an OPEN or SPENT side it is marked at its position; with none nothing changes. -/
def Obligations.PlaceFollowsTheRules : Prop :=
  (∀ (s : State) (i : Nat), (locate s.rounds i = none ↔ noEntry s i) ∧
    ∀ q w, locate s.rounds i = some (q, w) → ∃ before e after,
      entryAt i (match w with | .fill => (s.round q).fill | .other => (s.round q).other) before e after) ∧
  (∀ (s : State) (i : Nat) (r : BinRecord) (c : EntryClass),
    (r.round = none → place s i r c = (s, .noRound)) ∧
    (∀ q u before e after, r.round = some q →
      let upgraded : Entry := ⟨e.binId, e.slot, c, e.mark, false, r.fill, s.time.epoch,
        if e.crossing = none then r.crossing else e.crossing⟩
      (locate s.rounds i = some (u, .fill) → entryAt i (s.round u).fill before e after →
        (c.rank < e.cls.rank → place s i r c =
          (s.setRound u { s.round u with fill := withEntry upgraded (before ++ after) }, .upgraded)) ∧
        (e.cls.rank ≤ c.rank → place s i r c = (s, .unchanged))) ∧
      (locate s.rounds i = some (u, .other) → (s.round u).otherState = .sealed →
        entryAt i (s.round u).other before e after →
        (c.rank < e.cls.rank → place s i r c =
          (s.setRound u { s.round u with other := withEntry upgraded (before ++ after) }, .upgraded)) ∧
        (e.cls.rank ≤ c.rank → place s i r c = (s, .unchanged))) ∧
      (locate s.rounds i = some (u, .other) → (s.round u).otherState = .opened ∨ (s.round u).otherState = .spent →
        place s i r c = (s, .unchanged))) ∧
    (∀ q, r.round = some q → locate s.rounds i = none →
      let x := s.round q
      let e : Entry := ⟨r.binId, i, c, .none, false, r.fill, s.time.epoch, if c = .check then none else r.crossing⟩
      (x.fill.length < x.cap → 0 < s.free →
        place s i r c = ((s.setRound q { x with fill := withEntry e x.fill }).setFree (s.free - 1), .added)) ∧
      (x.fill.length < x.cap → s.free = 0 → place s i r c = (s, .failed)) ∧
      (∀ front last, x.cap ≤ x.fill.length → x.fill = front ++ [last] →
        (last.cls.rank ≤ c.rank → place s i r c = (s, .failed)) ∧
        (∀ y, c.rank < last.cls.rank → s.table.get last.slot = .live y 0 →
          place s i r c = ((s.setRound q { x with
            fill := withEntry e front, displaced := satInc16 x.displaced }).setTable
            (s.table.put last.slot (.live { y with placement := .unplaced } 0)), .added)) ∧
        (∀ y d, c.rank < last.cls.rank → s.table.get last.slot = .live y d → d ≠ 0 →
          place s i r c = (storeError (s.setRound q { x with
            fill := withEntry e front, displaced := satInc16 x.displaced }) last.slot, .added))))) ∧
  (∀ (s : State) (i : Nat) (m : Mark),
    (noEntry s i → detach s i m = s) ∧
    (∀ u before e after, locate s.rounds i = some (u, .fill) → entryAt i (s.round u).fill before e after →
      detach s i m = (s.setRound u { s.round u with fill := before ++ after }).setFree (s.free + 1)) ∧
    (∀ u before e after, locate s.rounds i = some (u, .other) → entryAt i (s.round u).other before e after →
      ((s.round u).otherState = .sealed →
        detach s i m = (s.setRound u { s.round u with other := before ++ after }).setFree (s.free + 1)) ∧
      ((s.round u).otherState = .opened ∨ (s.round u).otherState = .spent →
        detach s i m = s.setRound u { s.round u with other := before ++ { e with mark := m } :: after })))

/-- A new entry stands after every entry of its class and of higher classes and before every entry of a lower class;
a carried entry stands after the carried entries of its class and before its other entries (R104, R131). -/
def Obligations.EntriesKeepTheirPlaces : Prop :=
  ∀ (e : Entry) (l : List Entry), inOrder l →
    (∃ before after, l = before ++ after ∧ insertPlaced e l = before ++ e :: after ∧
      (∀ x ∈ before, x.cls.rank ≤ e.cls.rank) ∧ (∀ x ∈ after, e.cls.rank < x.cls.rank)) ∧
    (∃ before after, l = before ++ after ∧ insertCarried e l = before ++ e :: after ∧
      (∀ x ∈ before, x.cls.rank < e.cls.rank ∨ (x.cls.rank = e.cls.rank ∧ x.carried = true)) ∧
      (∀ x ∈ after, e.cls.rank < x.cls.rank ∨ (x.cls.rank = e.cls.rank ∧ x.carried = false)))


/-! ## Draw ports -/

/-- BIND in the order of R141: STOPPED, RANGE, BUSY, BOUND_ELSEWHERE; else the port and the round name each other, and
a SEALED side is opened at once: OPEN and READING, or with 0 entries SPENT and EXHAUSTED with EMPTIED set; with no
SEALED side the port is WAITING, its side byte FFh and, a reading of the model (notes/assumptions/25.md), its
entry-count byte 0 (R141, R142, R190). -/
def Obligations.BindOpensOrWaits : Prop :=
  ∀ (s : State) (tag : Word16) (a b : Byte), Asked s 0x40 tag [a, b] →
    (s.intake.state = .stopped → exec .bind s = .next (answeredWith s 0x40 tag 8 [])) ∧
    (s.intake.state ≠ .stopped → 3 < a.toNat ∨ 63 < b.toNat → exec .bind s = .next (answeredWith s 0x40 tag 2 [])) ∧
    (∀ (p : Fin 4) (q : Fin 64), s.intake.state ≠ .stopped → p.val = a.toNat → q.val = b.toNat →
      let x := s.round q
      let held : Byte := if x.held = true then 1 else 0
      let letter : Byte := match x.fillSide with | .a => 1 | .b => 0
      ((s.port p).state ≠ .unbound → exec .bind s = .next (answeredWith s 0x40 tag 1 [])) ∧
      ((s.port p).state = .unbound → x.bound ≠ none → exec .bind s = .next (answeredWith s 0x40 tag 5 [])) ∧
      ((s.port p).state = .unbound → x.bound = none → x.otherState ≠ .sealed →
        exec .bind s = .next (answeredWith
          ((s.setRound q { x with bound := some p }).setPort p ⟨.waiting q, 0, 0, false⟩) 0x40 tag 0
          [1, 0xFF, 0, held])) ∧
      ((s.port p).state = .unbound → x.bound = none → x.otherState = .sealed → x.other ≠ [] →
        exec .bind s = .next (answeredWith
          ((s.setRound q { x with bound := some p, otherState := .opened }).setPort p ⟨.reading q, 0, 0, false⟩)
          0x40 tag 0 [2, letter, byte x.other.length, held])) ∧
      ((s.port p).state = .unbound → x.bound = none → x.otherState = .sealed → x.other = [] →
        exec .bind s = .next (answeredWith
          (((s.setRound q { x with bound := some p, otherState := .spent }).setPort p
            ⟨.exhausted q, 0, 0, false⟩).setNotices (roundSet s.notices q .emptied)) 0x40 tag 0 [3, letter, 0, held])))

/-- DRAW in the order of R143. A READING port returns the entries from its cursor on, each with its current fill, and
the cursor advances; at the side's end the side becomes SPENT, the port EXHAUSTED and EMPTIED is set. A failed check
code ends the DRAW with STOPPED, the entry marked WITHDRAWN at its position and the port as it was (R143–R146). The 16
bytes of an entry are those of section 10.8 (R190). For states that no run reaches, the absent current fill of an
unmarked entry whose slot is not LIVE, and the crossing epoch 0 of an URGENT or DUE entry that has none, are the model's
choice (notes/assumptions/16.md, DESIGN CHOICE). -/
def Obligations.DrawReturnsEntries : Prop :=
  (∀ (s : State) (tag : Word16) (a n : Byte), Asked s 0x42 tag [a, n] →
    (s.intake.state = .stopped → exec .draw s = .next (answeredWith s 0x42 tag 8 [])) ∧
    (s.intake.state ≠ .stopped → 3 < a.toNat → exec .draw s = .next (answeredWith s 0x42 tag 2 [])) ∧
    (s.intake.state ≠ .stopped → a.toNat ≤ 3 → n.toNat = 0 ∨ 32 < n.toNat →
      exec .draw s = .next (answeredWith s 0x42 tag 9 [])) ∧
    (∀ p : Fin 4, s.intake.state ≠ .stopped → p.val = a.toNat → 1 ≤ n.toNat → n.toNat ≤ 32 →
      ((s.port p).state = .unbound → exec .draw s = .next (answeredWith s 0x42 tag 6 [])) ∧
      (∀ q, (s.port p).state = .waiting q → exec .draw s = .next (answeredWith s 0x42 tag 7 [])) ∧
      (∀ q, (s.port p).state = .exhausted q →
        exec .draw s = .next (answeredWith (s.setPort p { s.port p with idle := 0, expiryOwed := false })
          0x42 tag 0 [0, 0, 0])) ∧
      (∀ q, (s.port p).state = .reading q →
        let l := (s.round q).other
        let part := (l.drop (s.port p).cursor).take n.toNat
        let c := (s.port p).cursor + part.length
        let data := [byte part.length] ++ be16 (l.length - c) ++ part.flatMap fun e => e.bytes (currentFill s.table e)
        ((∀ e ∈ part, e.mark = .none → ∀ r d, s.table.get e.slot = .live r d → d = 0) →
          (c < l.length →
            exec .draw s = .next (answeredWith (s.setPort p ⟨.reading q, c, 0, false⟩) 0x42 tag 0 data)) ∧
          (l.length ≤ c →
            exec .draw s = .next (answeredWith (((s.setRound q { s.round q with otherState := .spent }).setPort p
              ⟨.exhausted q, c, 0, false⟩).setNotices (roundSet s.notices q .emptied)) 0x42 tag 0 data))) ∧
        (∀ before e after r d, part = before ++ e :: after → e.mark = .none → s.table.get e.slot = .live r d → d ≠ 0 →
          (∀ e' ∈ before, e'.mark = .none → ∀ r' d', s.table.get e'.slot = .live r' d' → d' = 0) →
          exec .draw s = .next (answeredWith (storeError s e.slot) 0x42 tag 8 []) ∧
          (storeError s e.slot).ports = s.ports ∧
          (UnmarkedLaw s → (s.round q).otherState = .opened → ∀ front back, l = front ++ e :: back →
            ((storeError s e.slot).round q).other = front ++ { e with mark := .withdrawn } :: back))))) ∧
  ∀ (e : Entry) (current : Option Nat), e.bytes current =
    let cls := match e.cls with | .urgent => 0 | .due => 1 | .check => 2
    let mark := match e.mark with | .none => 0 | .served => 1 | .withdrawn => 2
    let fill (f : Option Nat) : Byte := match f with | some n => byte n | none => 255
    let crossing := match e.cls, e.crossing with
      | .check, _ => 0
      | _, some c => c.toNat
      | _, none => 0
    be32 e.binId.toNat ++ [byte (cls + 4 * mark + if e.carried = true then 16 else 0), fill e.fillAt, fill current, 0] ++
      be32 crossing ++ be32 e.placedEpoch.toNat

/-- REWIND of a port that reads a side: the cursor and the idle count are 0, and a side with entries is OPEN and the
port READING again; its refusals. PORT GET: the port's record, the side it reads with its counts, and the draw
timeout; it changes nothing (R147, R156). -/
def Obligations.RewindAndPortGet : Prop :=
  (∀ (s : State) (tag : Word16) (a : Byte), Asked s 0x43 tag [a] →
    (s.intake.state = .stopped → exec .rewind s = .next (answeredWith s 0x43 tag 8 [])) ∧
    (s.intake.state ≠ .stopped → 3 < a.toNat → exec .rewind s = .next (answeredWith s 0x43 tag 2 [])) ∧
    (∀ p : Fin 4, s.intake.state ≠ .stopped → p.val = a.toNat →
      ((s.port p).state = .unbound → exec .rewind s = .next (answeredWith s 0x43 tag 6 [])) ∧
      (∀ q, (s.port p).state = .waiting q → exec .rewind s = .next (answeredWith s 0x43 tag 7 [])) ∧
      (∀ q, (s.port p).state = .reading q ∨ (s.port p).state = .exhausted q → (s.round q).other ≠ [] →
        exec .rewind s = .next (answeredWith ((s.setRound q { s.round q with otherState := .opened }).setPort p
          ⟨.reading q, 0, 0, false⟩) 0x43 tag 0 [])) ∧
      (∀ q, (s.port p).state = .exhausted q → (s.round q).other = [] →
        exec .rewind s = .next (answeredWith (s.setPort p ⟨.exhausted q, 0, 0, false⟩) 0x43 tag 0 [])))) ∧
  (∀ (s : State) (tag : Word16) (a : Byte), Asked s 0x45 tag [a] →
    (3 < a.toNat → exec .portGet s = .next (answeredWith s 0x45 tag 2 [])) ∧
    (∀ p : Fin 4, p.val = a.toNat →
      let x := s.port p
      let idling (code round : Byte) :=
        [code, round, byte x.cursor] ++ be16 x.idle ++ [0xFF, 0, 0, 0] ++ be16 s.drawTimeout
      let reading (code : Byte) (q : Fin 64) :=
        let l := (s.round q).other
        [code, byte q.val, byte x.cursor] ++ be16 x.idle ++
          [match (s.round q).fillSide with | .a => 1 | .b => 0, byte l.length,
            byte (l.filter fun e => e.mark ≠ .none).length, byte (l.length - x.cursor)] ++ be16 s.drawTimeout
      (x.state = .unbound → exec .portGet s = .next (answeredWith s 0x45 tag 0 (idling 0 0xFF))) ∧
      (∀ q, x.state = .waiting q → exec .portGet s = .next (answeredWith s 0x45 tag 0 (idling 1 (byte q.val)))) ∧
      (∀ q, x.state = .reading q → exec .portGet s = .next (answeredWith s 0x45 tag 0 (reading 2 q))) ∧
      (∀ q, x.state = .exhausted q → exec .portGet s = .next (answeredWith s 0x45 tag 0 (reading 3 q)))))

/-- UNBIND in every intake state, and the expiry of a draw timer: the side a port reads returns to SEALED with its
unmarked entries in their order, its marked entries freed, and the port and the round let go of each other; an expiry
then raises DRAW_TIMEOUT. An expiry that is not owed does nothing (R149, R152, R154). That the
command takes an expiry which a tick left owed is the model's reading (notes/assumptions/6.md); that it changes nothing
with none owed is its choice (notes/assumptions/1.md). -/
def Obligations.UnbindAndExpiryReturnSide : Prop :=
  ∀ (s : State) (p : Fin 4),
    let free : Port := ⟨.unbound, 0, 0, false⟩
    let marked (q : Fin 64) := ((s.round q).other.filter fun e => e.mark ≠ .none).length
    let unmarked (q : Fin 64) := (s.round q).other.filter fun e => e.mark = .none
    let returned (q : Fin 64) := ((s.setRound q { s.round q with
      otherState := .sealed, other := unmarked q, bound := none }).setFree (s.free + marked q)).setPort p free
    (∀ (tag : Word16) (a : Byte), Asked s 0x41 tag [a] →
      (3 < a.toNat → exec .unbind s = .next (answeredWith s 0x41 tag 2 [])) ∧
      (p.val = a.toNat →
        ((s.port p).state = .unbound → exec .unbind s = .next (answeredWith s 0x41 tag 0 [0, 0])) ∧
        (∀ q, (s.port p).state = .waiting q →
          exec .unbind s = .next (answeredWith ((s.setRound q { s.round q with bound := none }).setPort p free)
            0x41 tag 0 [0, 0])) ∧
        (∀ q, (s.port p).state = .reading q ∨ (s.port p).state = .exhausted q →
          exec .unbind s = .next (answeredWith (returned q) 0x41 tag 0
            [byte (marked q), byte (unmarked q).length])))) ∧
    (s.rstLow = false →
      ((s.port p).expiryOwed = false → exec (.drawTimerExpiry p) s = .next s) ∧
      (∀ q, (s.port p).expiryOwed = true → (s.port p).state = .reading q ∨ (s.port p).state = .exhausted q →
        exec (.drawTimerExpiry p) s = .next (raiseT (returned q) .drawTimeout (.portRound p q))))

/-- RELEASE. The marked entries are freed and the unmarked ones carried in their order into the FILL side, the side
becomes FREE and the port WAITING. With room for all, the FILL side is the old one with each put in as a carried
entry; a single entry that finds the side at cap displaces a last entry of strictly lower class or is dropped with
PLACE_FAIL. In every case the entries are carried over one after another, each as `carriedOver` says. With Held set the
owed cut-off is then performed and Held cleared; the answer carries the figures, and the side's count equals freed plus
carried plus dropped (R129–R134, R148). That the answer is OK also where a carried or displaced bin's check code fails
is the model's reading (notes/assumptions/14.md, DEDUCED); that a displaced or dropped entry whose slot is not LIVE,
which no run reaches, leaves the slot as it is, is its choice (notes/assumptions/16.md, DESIGN CHOICE). -/
def Obligations.ReleaseHandsBack : Prop :=
  ∀ (s : State) (tag : Word16) (a : Byte), Asked s 0x44 tag [a] →
    (s.intake.state = .stopped → exec .release s = .next (answeredWith s 0x44 tag 8 [])) ∧
    (s.intake.state ≠ .stopped → 3 < a.toNat → exec .release s = .next (answeredWith s 0x44 tag 2 [])) ∧
    (∀ p : Fin 4, s.intake.state ≠ .stopped → p.val = a.toNat →
      ((s.port p).state = .unbound → exec .release s = .next (answeredWith s 0x44 tag 6 [])) ∧
      (∀ q, (s.port p).state = .waiting q → exec .release s = .next (answeredWith s 0x44 tag 7 [])) ∧
      (∀ q, (s.port p).state = .reading q ∨ (s.port p).state = .exhausted q →
        let x := s.round q
        let freed := (x.other.filter fun e => e.mark ≠ .none).length
        let unmarked := x.other.filter fun e => e.mark = .none
        let bare (fill : List Entry) (displaced : Word16) (free : Nat) :=
          ((s.setRound q { x with
            otherState := .free, other := [], fill := fill, held := false, displaced := displaced }).setFree
            free).setPort p ⟨.waiting q, 0, 0, false⟩
        let ends (t : State) (figures : List Byte) : Prop :=
          (x.held = false → exec .release s = .next (answeredWith t 0x44 tag 0 (figures ++ [0, 0]))) ∧
          (x.held = true →
            (∀ n o, (cutoff t q).2 = .sealed n o →
              exec .release s = .next (answeredWith (cutoff t q).1 0x44 tag 0 (figures ++ [1, byte n]))) ∧
            ((cutoff t q).2 = .empty →
              exec .release s = .next (answeredWith (cutoff t q).1 0x44 tag 0 (figures ++ [2, 0]))))
        (x.fill.length + unmarked.length ≤ x.cap →
          ends (bare (unmarked.foldl (fun l e => insertCarried { e with carried := true } l) x.fill) x.displaced
            (s.free + freed)) [byte freed, byte unmarked.length, 0, 0]) ∧
        (∀ e front last, unmarked = [e] → x.cap ≤ x.fill.length → x.fill = front ++ [last] →
          (e.cls.rank < last.cls.rank → ∀ y, s.table.get last.slot = .live y 0 →
            ends ((bare (insertCarried { e with carried := true } front) (satInc16 x.displaced)
              (s.free + freed + 1)).setTable (s.table.put last.slot (.live { y with placement := .unplaced } 0)))
              [byte freed, 1, 1, 0]) ∧
          (last.cls.rank ≤ e.cls.rank → ∀ y, s.table.get e.slot = .live y 0 →
            ends (raiseT ((bare x.fill x.displaced (s.free + freed + 1)).setTable
              (s.table.put e.slot (.live { y with placement := .unplaced } 0))) .placeFail (.bin e.binId))
              [byte freed, 0, 0, 1])) ∧
        (let start := ((s.setRound q { x with otherState := .free, other := [] }).setFree (s.free + freed)).setPort p
            ⟨.waiting q, 0, 0, false⟩
          let carried := unmarked.foldl (carriedOver q) (start, ⟨freed, 0, 0, 0⟩)
          let t := carried.1
          ends (t.setRound q { t.round q with held := false })
            [byte carried.2.freed, byte carried.2.carried, byte carried.2.displaced, byte carried.2.dropped]) ∧
        ∃ t carried displaced dropped tail, exec .release s = .next (answeredWith t 0x44 tag 0
            ([byte freed, byte carried, byte displaced, byte dropped] ++ tail)) ∧
          x.other.length = freed + carried + dropped ∧ displaced ≤ carried ∧ (t.round q).held = false))

/-! ## The sweep -/

/-- SWEEP starts a sweep in IDLE, is BUSY in RUNNING and refused in STOPPED; SWEEP ABORT ends a running sweep and
answers its cursor, in every intake state; SWEEP REPORT returns the report and changes nothing (R160, R168–R171). -/
def Obligations.SweepRequestsAnswered : Prop :=
  (∀ (s : State) (tag : Word16), Asked s 0x80 tag [] →
    (s.intake.state = .stopped → exec .sweep s = .next (answeredWith s 0x80 tag 8 [])) ∧
    (s.intake.state ≠ .stopped → s.sweep.running = true → exec .sweep s = .next (answeredWith s 0x80 tag 1 [])) ∧
    (s.intake.state ≠ .stopped → s.sweep.running = false →
      exec .sweep s = .next (answeredWith (s.setSweep
        ⟨true, 8191, some s.time.epoch, none, 0, 0, 0, 0, s.sweep.overlaps⟩) 0x80 tag 0
        (be32 s.time.epoch.toNat)))) ∧
  (∀ (s : State) (tag : Word16), Asked s 0x81 tag [] →
    (s.sweep.running = true →
      exec .sweepAbort s = .next (answeredWith (s.setSweep { s.sweep with
        running := false, endReason := some .aborted }) 0x81 tag 0 (be16 s.sweep.cursor))) ∧
    (s.sweep.running = false →
      exec .sweepAbort s = .next (answeredWith s 0x81 tag 0 (be16 s.sweep.cursor)))) ∧
  (∀ (s : State) (tag : Word16), Asked s 0x82 tag [] →
    let w := s.sweep
    exec .sweepReport s = .next (answeredWith s 0x82 tag 0
      ([bits [w.startEpoch.isSome, w.endReason.isSome]] ++ epochBytes w.startEpoch ++
        [match w.endReason with | none => (0 : Byte) | some .done => 1 | some .aborted => 2 | some .stopped => 3] ++
        be32 w.visited.toNat ++ be32 w.silenced.toNat ++ be32 w.placed.toNat ++ be32 w.reclaimed.toNat ++
        be32 w.overlaps.toNat ++ [if w.running = true then 1 else 0] ++ be16 w.cursor)))

/-- SWEEP_VISIT of a slot that is not LIVE, or whose check code fails: an EMPTY or DAMAGED slot is passed over, a
TOMBSTONE before an EMPTY slot is reclaimed, a failed check code stops the part and the sweep, which after slot 0 is
DONE all the same (notes/assumptions/13.md, DEDUCED). An IDLE engine visits nothing (R159, R161, R166–R168). -/
def Obligations.SweepVisitsEmptySlots : Prop :=
  ∀ s : State, s.rstLow = false →
    (s.sweep.running = false → exec .sweepVisit s = .next s) ∧
    (s.sweep.running = true →
      let i := s.sweep.cursor
      let next := s.table.get ((i + 1) % 8192)
      (s.table.get i = .empty ∨ s.table.get i = .damaged → exec .sweepVisit s = .next (walked s i)) ∧
      (s.table.get i = .tombstone → next ≠ .empty → exec .sweepVisit s = .next (walked s i)) ∧
      (s.table.get i = .tombstone → next = .empty →
        exec .sweepVisit s = .next (walked ((s.setTable (s.table.put i .empty)).setSweep
          { s.sweep with reclaimed := s.sweep.reclaimed + 1 }) i)) ∧
      (∀ r d, s.table.get i = .live r d → d ≠ 0 →
        exec .sweepVisit s = .next (walked (storeError s i) i)))

/-- SWEEP_VISIT of a LIVE slot that verifies: the silence test, the CHECK Place of a bin found silent, else the retry
of an UNPLACED bin; the record is written with its Silent flag and its placement, the counts advance, and SILENCE and
PLACE_FAIL are raised (R161–R165). Where the Place finds a displaced bin's slot failed it completes (R167), and after
slot 0 the sweep is DONE all the same (notes/assumptions/13.md, DEDUCED). -/
def Obligations.SweepVisitsLiveSlots : Prop :=
  ∀ (s : State) (i : Nat) (r : BinRecord), s.rstLow = false → s.sweep.running = true → s.sweep.cursor = i →
    s.table.get i = .live r 0 →
    let p := Vec.get s.profiles r.profile
    let found := r.silent = false ∧ p.silenceLimit ≤ (s.time.epoch - r.heardEpoch).toNat
    let calm := r.state ≠ .urgent ∧ r.state ≠ .due
    ∀ (silent : Bool) (u : State), (found → silent = true) → (¬ found → silent = r.silent) →
      (found → u = raiseT ((s.setTable (s.table.put i (.live { r with silent := true } 0))).setSweep
        { s.sweep with silenced := s.sweep.silenced + 1 }) .silence (.bin r.binId)) →
      (¬ found → u = s) →
      let y : BinRecord := { r with silent := silent }
      let asks (c : EntryClass) : Prop :=
        (found ∧ p.checkOnSilence = true ∧ calm ∧ r.round ≠ none ∧ c = .check) ∨
        (r.placement = .unplaced ∧ ((r.state = .urgent ∧ c = .urgent) ∨ (r.state = .due ∧ c = .due) ∨
          (calm ∧ silent = true ∧ p.checkOnSilence = true ∧ c = .check)))
      let wrote (t : State) (x : Placement) := t.setTable (t.table.put i (.live { y with placement := x } 0))
      ((∀ c, ¬ asks c) → r.placement ≠ .unplaced →
        exec .sweepVisit s = .next (walked (wrote u r.placement) i)) ∧
      ((∀ c, ¬ asks c) → r.placement = .unplaced →
        exec .sweepVisit s = .next (walked (wrote (detach u i .withdrawn) .none) i)) ∧
      (∀ c, asks c →
        let t := (place u i y c).1
        ((place u i y c).2 = .added →
          exec .sweepVisit s = .next (walked ((wrote t .placed).setSweep
            { t.sweep with placed := t.sweep.placed + 1 }) i)) ∧
        ((place u i y c).2 = .upgraded ∨ (place u i y c).2 = .unchanged →
          exec .sweepVisit s = .next (walked (wrote t .placed) i)) ∧
        ((place u i y c).2 = .failed →
          exec .sweepVisit s = .next (walked (raiseT (wrote t .unplaced) .placeFail (.bin r.binId)) i)))

/-! ## The planner link -/

/-- Downlink frames (R175, R177): a good frame enters the request queue, or with 8 waiting is discarded and counted;
a bad one, a missing stop bit in its last CRC byte included, is counted once, and one found bad before that byte makes
the receiver discard until the line is idle; the idle line ends an incomplete frame, or the discarding. -/
def Obligations.DownlinkFrames : Prop :=
  (∀ (s : State) (body : List Byte) (crc : Option Word16), s.rstLow = false → s.link.rx = .waiting →
    body.length ≤ 600 →
    let own := crc16 ([1, byte (body.length / 256), byte body.length] ++ body)
    let bad := s.setLink { s.link with badFrames := s.link.badFrames + 1 }
    (crc ≠ some own ∨ body.length < 3 → exec (.linkFrameReceived body crc) s = .next bad) ∧
    (∀ c h l operands, crc = some own → body = c :: h :: l :: operands →
      (s.link.downlink.length < 8 → exec (.linkFrameReceived body crc) s =
        .next (s.setLink { s.link with downlink := s.link.downlink ++ [⟨c, h ++ l, operands⟩] })) ∧
      (8 ≤ s.link.downlink.length → exec (.linkFrameReceived body crc) s =
        .next (s.setLink { s.link with droppedRequests := s.link.droppedRequests + 1 })))) ∧
  (∀ (s : State) (body : List Byte) (crc : Option Word16) (cause : BadCause), s.rstLow = false →
    s.link.rx = .discarding →
    exec (.linkFrameReceived body crc) s = .next s ∧ exec (.badFrameBeforeCrc cause) s = .next s) ∧
  (∀ (s : State) (cause : BadCause), s.rstLow = false → s.link.rx = .waiting →
    (cause = .missingStop ∨ (∃ b, b ≠ 1#8 ∧ cause = .typeByte b) ∨
      (∃ n, 600 < n ∧ n < 65536 ∧ cause = .bodyLength n)) →
    exec (.badFrameBeforeCrc cause) s =
      .next (s.setLink { s.link with badFrames := s.link.badFrames + 1, rx := .discarding })) ∧
  (∀ (s : State) (incomplete : Bool), s.rstLow = false →
    (s.link.rx = .discarding → exec (.linkIdleTimeout incomplete) s = .next (s.setLink { s.link with rx := .waiting })) ∧
    (s.link.rx = .waiting → incomplete = true →
      exec (.linkIdleTimeout incomplete) s =
        .next (s.setLink { s.link with badFrames := s.link.badFrames + 1 })) ∧
    (s.link.rx = .waiting → incomplete = false → exec (.linkIdleTimeout incomplete) s = .next s))

/-- REQUEST_TAKE: with the handler idle, a request waiting and a place free the oldest request is taken, and answered
BAD_REQUEST at once when its operands are not of its length; otherwise nothing is taken. UNKNOWN_REQUEST: a code that
is none of the manual's is answered BAD_REQUEST with nothing changed (R178, R179). -/
def Obligations.RequestTakeAndUnknown : Prop :=
  (∀ (s : State), s.rstLow = false →
    (s.link.handler ≠ .idle ∨ s.link.downlink = [] ∨ ¬ freePlace s → exec .requestTake s = .next s) ∧
    (∀ code tag operands rest, s.link.handler = .idle → freePlace s →
      s.link.downlink = ⟨code, tag, operands⟩ :: rest →
      let taken := s.setLink { s.link with downlink := rest, handler := .taken ⟨code, tag, operands⟩ }
      ((∀ n, (code.toNat, n) ∉ codesWithLengths) ∨ (code.toNat, operands.length) ∈ codesWithLengths →
        exec .requestTake s = .next taken) ∧
      (∀ n, (code.toNat, n) ∈ codesWithLengths → n ≠ operands.length →
        exec .requestTake s = .next (answeredWith taken code tag 9 [])))) ∧
  (∀ (s : State) (code : Byte) (tag : Word16) (operands : List Byte), Asked s code tag operands →
    (∀ n, (code.toNat, n) ∉ codesWithLengths) →
    exec .unknownRequest s = .next (answeredWith s code tag 9 []))

/-- UPLINK_FRAME_SENT: the oldest frame leaves whole, and a relay is counted; its bytes are the type, the length, the
body and the CRC over these (section 10.1, R190). NOTICE_BUILD: with a place free the
first status of the notice list is built into a notice as it stands, with the current epoch, leaves the list and
stays set (R176, R180, R182). -/
def Obligations.UplinkFrameAndNotice : Prop :=
  (∀ s : State, s.rstLow = false →
    (s.link.uplink = [] → exec .uplinkFrameSent s = .next s) ∧
    (∀ f rest, s.link.uplink = f :: rest →
      exec .uplinkFrameSent s = .next ((s.setLink { s.link with
        uplink := rest,
        relaysSent := if f.kind = .relay then s.link.relaysSent + 1 else s.link.relaysSent }).setTxOut (.whole f)))) ∧
  (∀ f : UplinkFrame,
    let type : Byte := match f.kind with | .response => 0x81 | .notice => 0x82 | .relay => 0x83
    let head := [type, byte (f.body.length / 256), byte f.body.length] ++ f.body
    (TxOut.whole f).bytes = some (head ++ [byte ((crc16 head).toNat / 256), byte (crc16 head).toNat])) ∧
  (∀ s : State, s.rstLow = false →
    (s.notices.list = [] ∨ ¬ freePlace s → exec .noticeBuild s = .next s) ∧
    (∀ i rest, s.notices.list = i :: rest → freePlace s →
      let built (head : List Byte) : Result := .next ((s.setLink { s.link with
        uplink := s.link.uplink ++ [⟨.notice, head ++ be32 s.time.epoch.toNat⟩] }).setNotices
        { s.notices with list := rest })
      (∀ q, i = .round q .ready → exec .noticeBuild s = built [1, byte q.val, 0, 0, 0, 0, 0, 0, 0, 0]) ∧
      (∀ q, i = .round q .emptied → exec .noticeBuild s = built [2, byte q.val, 0, 0, 0, 0, 0, 0, 0, 0]) ∧
      (∀ q, i = .round q .late → exec .noticeBuild s = built [3, byte q.val, 0, 0, 0, 0, 0, 0, 0, 0]) ∧
      (∀ k, i = .cond k → exec .noticeBuild s = built ([4, byte k.idx.val] ++
        subjectBytes (Vec.get s.notices.conds k.idx).subject ++ be32 (Vec.get s.notices.conds k.idx).since.toNat)) ∧
      (∀ c, i = .held → s.notices.heldCause = some c →
        exec .noticeBuild s = built [5, c.code, 0, 0, 0, 0, 0, 0, 0, 0]) ∧
      (i = .sweepDone → exec .noticeBuild s = built [6, 0, 0, 0, 0, 0, 0, 0, 0, 0]) ∧
      (∀ n, i = .stopped → s.notices.stoppedSlot = some n →
        exec .noticeBuild s = built ([7, 0] ++ be32 n ++ [0, 0, 0, 0]))))

/-! ## Management -/

/-- NOTICE ENABLE writes the named enables together: a status set and newly enabled joins the list, in the order
named; one newly disabled leaves it; no status is changed (R183); the answer repeats the three operand bytes, the round byte
of a scope that ignores it too, by the model's choice (notes/assumptions/16.md). NOTICE CLEAR clears the named statuses with their
data and takes them off the list; the answer counts those that were set; nothing outside the Notice Unit changes
(R184). -/
def Obligations.NoticeEnableAndClear : Prop :=
  (∀ (s : State) (tag : Word16) (scope b flags : Byte), Asked s 0x94 tag [scope, b, flags] →
    (2 < scope.toNat ∨ (scope = 0#8 ∧ 63 < b.toNat) ∨ 8 ≤ flags.toNat →
      exec .noticeEnable s = .next (answeredWith s 0x94 tag 2 [])) ∧
    (∀ q : Fin 64, scope.toNat ≤ 2 → (scope = 0#8 → q.val = b.toNat) → flags.toNat < 8 →
      ∃ n : Notices, exec .noticeEnable s = .next (answeredWith (s.setNotices n) 0x94 tag 0 [scope, b, flags]) ∧
        (∀ i, n.isEnabled i = if i ∈ named scope q then wanted flags i else s.notices.isEnabled i) ∧
        (∀ i, n.isSet i = s.notices.isSet i) ∧ n.conds = s.notices.conds ∧ n.heldCause = s.notices.heldCause ∧
        n.stoppedSlot = s.notices.stoppedSlot ∧
        n.list =
          (s.notices.list.filter fun i => ¬ (i ∈ named scope q ∧ s.notices.isEnabled i = true ∧ wanted flags i = false)) ++
          ((named scope q).filter fun i => s.notices.isEnabled i = false ∧ wanted flags i = true ∧
            s.notices.isSet i = true ∧ i ∉ s.notices.list))) ∧
  (∀ (s : State) (tag : Word16) (scope sel w : Byte), Asked s 0x95 tag [scope, sel, w] →
    let clears (l : List StatusId) : Prop :=
      ∃ n : Notices, exec .noticeClear s = .next (answeredWith (s.setNotices n) 0x95 tag 0
          [byte (l.filter fun i => s.notices.isSet i).length]) ∧
        (∀ i, n.isSet i = if i ∈ l then false else s.notices.isSet i) ∧
        (∀ i, n.isEnabled i = s.notices.isEnabled i) ∧ n.list = (s.notices.list.filter fun i => i ∉ l) ∧
        (∀ k : Kind, Vec.get n.conds k.idx =
          if .cond k ∈ l then ⟨false, none, 0⟩ else Vec.get s.notices.conds k.idx) ∧
        n.heldCause = (if .held ∈ l then none else s.notices.heldCause) ∧
        n.stoppedSlot = (if .stopped ∈ l then none else s.notices.stoppedSlot)
    (4 < scope.toNat ∨ (scope.toNat ≤ 1 ∧ 63 < sel.toNat) ∨ (scope = 2#8 ∧ 17 < sel.toNat) ∨
        ((scope = 0#8 ∨ scope = 4#8) ∧ 2 < w.toNat) →
      exec .noticeClear s = .next (answeredWith s 0x95 tag 2 [])) ∧
    (∀ q : Fin 64, q.val = sel.toNat →
      (scope = 0#8 → (w = 0#8 → clears [.round q .ready]) ∧ (w = 1#8 → clears [.round q .emptied]) ∧
        (w = 2#8 → clears [.round q .late])) ∧
      (scope = 1#8 → clears [.round q .ready, .round q .emptied, .round q .late])) ∧
    (∀ k : Kind, k.idx.val = sel.toNat → scope = 2#8 → clears [.cond k]) ∧
    (scope = 3#8 → clears (allKinds.map .cond)) ∧
    (scope = 4#8 → (w = 0#8 → clears [.held]) ∧ (w = 1#8 → clears [.sweepDone]) ∧ (w = 2#8 → clears [.stopped])))

/-- STATUS reads each of its ten items whole, as it stands when it is read, in any order, with any events between them
where they are read in several commands, and answers once every item has been read; it changes nothing else (R185, R178,
R190). COUNTERS returns the device counters, and its clear option zeroes them after the reading and nothing else (R186).
That the command carries which items it reads, and the request handler those read so far, is the model's reading
(notes/assumptions/27.md, DEDUCED). -/
def Obligations.StatusAndCounters : Prop :=
  (∀ (s : State) (items : List StatusItem), s.rstLow = false →
    let waits (tag : Word16) (got : StatusRead) := s.setLink { s.link with handler := .readingStatus tag got }
    (∀ tag, s.link.handler = .taken ⟨0x90, tag, []⟩ →
      ((∀ i, i ∈ items) → exec (.status items) s = .next (answeredWith s 0x90 tag 0 (inOrderOfStatus (statusText s)))) ∧
      ((∃ i, i ∉ items) → ∃ got, exec (.status items) s = .next (waits tag got) ∧
        ∀ i, Vec.get got (statusPlace i) = if i ∈ items then some (statusText s i) else none)) ∧
    (∀ tag got, s.link.handler = .readingStatus tag got →
      let now (i : StatusItem) := match Vec.get got (statusPlace i) with | some l => l | none => statusText s i
      ((∀ i, i ∈ items ∨ Vec.get got (statusPlace i) ≠ none) →
        exec (.status items) s = .next (answeredWith s 0x90 tag 0 (inOrderOfStatus now))) ∧
      ((∃ i, i ∉ items ∧ Vec.get got (statusPlace i) = none) →
        ∃ next, exec (.status items) s = .next (waits tag next) ∧
          ∀ i, Vec.get next (statusPlace i) =
            if i ∈ items ∨ Vec.get got (statusPlace i) ≠ none then some (now i) else none)) ∧
    ((∀ r, s.link.handler = .taken r → r.code ≠ 0x90#8) → (∀ tag got, s.link.handler ≠ .readingStatus tag got) →
      exec (.status items) s = .next s)) ∧
  (∀ (s : State) (tag : Word16) (clear : Byte), Asked s 0x91 tag [clear] →
    let lane (l : Lane) := be32 l.received.toNat ++ be32 l.dropped.toNat ++ be32 l.lost.toNat
    let data := lane (s.lane 0) ++ lane (s.lane 1) ++ lane (s.lane 2) ++ lane (s.lane 3) ++
      be32 s.link.badFrames.toNat ++ be32 s.link.droppedRequests.toNat ++ be32 s.link.relayLost.toNat ++
      be32 s.link.relaysSent.toNat ++ be32 s.emptyCutoffs.toNat ++ be32 s.sweep.overlaps.toNat
    (1 < clear.toNat → exec .counters s = .next (answeredWith s 0x91 tag 2 [])) ∧
    (clear = 0#8 → exec .counters s = .next (answeredWith s 0x91 tag 0 data)) ∧
    (clear = 1#8 → ∃ t, exec .counters s = .next (answeredWith t 0x91 tag 0 data) ∧
      (∀ m : Fin 4, t.lane m = { s.lane m with received := 0, dropped := 0, lost := 0 }) ∧
      t = ((((s.setLanes t.lanes).setLink { s.link with
        badFrames := 0, droppedRequests := 0, relayLost := 0, relaysSent := 0 }).setEmptyCutoffs 0).setSweep
        { s.sweep with overlaps := 0 })))

/-- RESTART, all its steps at once, in every state: the frame in flight is ended by its apply claim first; then the
table, the rounds, the ports, the queues, counts, deferrals and statuses are reset, the rest is kept, intake is HELD
with cause RESTART, and the answer gives the slots lost and the LIVE slots. Split over several commands it does the same
(R188, R41, R121, R83, R13, R181). A receiver that was discarding waits for a frame or goes on discarding: R175 and
R189 give each one, and the value is open (notes/assumptions/24.md). The model's reading: the steps and what falls
between them (notes/assumptions/8.md), and that the frame being sent is exactly the head of the Uplink Queue, which
alone is kept (notes/assumptions/10.md, both DEDUCED). -/
def Obligations.RestartWork : Prop :=
  (∀ (s : State) (tag : Word16), Asked s 0x9F tag [] → let u := applyClaim [] s
    ∃ t, exec (.restart 7) s = .next (answeredWith t 0x9F tag 0
        (be16 (u.table.filter fun p => match p.2 with | .live _ d => d ≠ 0 | _ => false).length ++
          be16 (t.table.count Slot.isLive))) ∧
      (∀ i, t.table.get i = match u.table.get i with
        | .empty => .empty
        | .tombstone => .tombstone
        | .damaged => .tombstone
        | .live r d => if d ≠ 0 then .tombstone else .live { r with
            placement := if r.placement = .placed then .unplaced else r.placement } 0) ∧
      (∀ q, t.round q = { u.round q with
        fillSide := .a, fill := [], otherState := .free, other := [], held := false, missed := 0,
        lastCutoff := none, bound := none, displaced := 0 }) ∧
      t.free = 4096 ∧ (∀ p, t.port p = ⟨.unbound, 0, 0, false⟩) ∧
      t.intake = { u.intake with
        state := .held .restart, queue := [], accepted := 0, taken := 0, inFlight := none, holdWaiting := none,
        window := [] } ∧ t.stopPin = false ∧
      (∀ n : Fin 4, t.lane n = { u.lane n with received := 0, dropped := 0, lost := 0 }) ∧
      (∀ k : Kind, Vec.get t.cond.counts k.idx = 0 ∧ Vec.get t.cond.deferred k.idx = ⟨0, none⟩) ∧
      t.cond.storeErrors = 0 ∧ t.cond.latestSlot = none ∧ t.cond.rows = u.cond.rows ∧ t.cond.mask = u.cond.mask ∧
      t.sweep = { u.sweep with
        running := false, overlaps := 0,
        endReason := if u.sweep.running = true then some .aborted else u.sweep.endReason } ∧
      t.link = { u.link with
        rx := t.link.rx, uplink := u.link.uplink.take 1, downlink := [], badFrames := 0, droppedRequests := 0,
        relayLost := 0, relaysSent := 0, handler := t.link.handler } ∧
      (t.link.rx = .waiting ∨ t.link.rx = u.link.rx) ∧
      t.emptyCutoffs = 0 ∧ t.notices.list = [] ∧ (∀ i, t.notices.isSet i = false) ∧
      (∀ i, t.notices.isEnabled i = u.notices.isEnabled i) ∧ t.notices.heldCause = none ∧
      t.notices.stoppedSlot = none ∧ (∀ k : Kind, Vec.get t.notices.conds k.idx = ⟨false, none, 0⟩) ∧
      t.profiles = u.profiles ∧ t.time = u.time ∧ t.pending = u.pending ∧ t.rateHigh = u.rateHigh ∧ t.rstLow = false ∧
      t.drawTimeout = u.drawTimeout ∧ t.txOut = u.txOut) ∧
  (∀ (s u : State) (n m : Nat), exec (.restart n) s = .next u →
    exec (.restart m) u = exec (.restart (n + m)) s)

/-! ## Laws that every step keeps -/

/-- At reset the table is in its canonical form with nothing listed, and every law holds. -/
def Obligations.LawsHoldAtReset : Prop :=
  State.reset.table = [] ∧ State.reset.table.wf ∧ ProbeLaw State.reset ∧ RecordLaw State.reset ∧
  RoundLaw State.reset ∧ PoolLaw State.reset ∧ UnmarkedLaw State.reset ∧ PlacementLaw State.reset ∧
  PortLaw State.reset ∧ IntakeLaw State.reset ∧ LinkLaw State.reset ∧ NoticeLaw State.reset ∧
  SweepLaw State.reset ∧ TimeLaw State.reset ∧ SettingLaw State.reset ∧
  State.reset.intake.state = .held .start ∧ State.reset.pending = [] ∧ State.reset.stopPin = false

/-- Every step keeps the canonical form of the Bin Table, and every record's fields present as its state says. -/
def Obligations.TableAndRecordsKept : Prop := Kept (fun s => s.table.wf) ∧ Kept RecordLaw

/-- Every step keeps the two laws of R26, a LIVE record within 24 probe positions of its home slot with no EMPTY slot
before it, and the law of R28, that no bin ID stands in two LIVE slots. -/
def Obligations.ProbeChainsKept : Prop := Kept fun s => s.table.wf ∧ ProbeLaw s

/-- Every step keeps every round lawful: both sides in the order of R104, no marks on FILL, FREE and SEALED sides, a
FREE side empty with Held clear (R127), neither side above the cap, the settings in range; and with it the entries and
the free slots of the pool together at 4096 (R103). -/
def Obligations.RoundsAndPoolKept : Prop := Kept RoundLaw ∧ Kept fun s => RoundLaw s ∧ PoolLaw s

/-- Every step keeps at most one unmarked entry for a slot. -/
def Obligations.UnmarkedEntriesUnique : Prop := Kept UnmarkedLaw

/-- Every step keeps placements and sheets in agreement: a bin is PLACED exactly when an unmarked entry names it, on a
side of its current round. -/
def Obligations.PlacementAgreesWithSheets : Prop :=
  Kept fun s => s.table.wf ∧ RoundLaw s ∧ UnmarkedLaw s ∧ PlacementLaw s

/-- Every step keeps ports and rounds in agreement: who is bound to whom, and a port's cursor with the side it
reads. -/
def Obligations.PortsAgreeWithRounds : Prop := Kept PortLaw

/-- Every step keeps the capacities and counts of the intake and of the link queues. -/
def Obligations.IntakeAndLinkKept : Prop := Kept IntakeLaw ∧ Kept LinkLaw

/-- Every step keeps the notice list, the sweep, the clocks and the settings lawful. -/
def Obligations.OtherLawsKept : Prop := Kept NoticeLaw ∧ Kept SweepLaw ∧ Kept TimeLaw ∧ Kept SettingLaw
end

