-- ==== Sys2Proof/Laws/State.lean ====
section
/-! SUPPORT. What each named update of the state leaves in each field: one lemma per field per update, and for the
updates of one round, one port and one lane likewise. -/

namespace Sys2Proof.Machine

variable (s : State)

section
variable (x : List Instr)
@[simp] theorem setPending_pending : (s.setPending x).pending = x := rfl
@[simp] theorem setPending_rstLow : (s.setPending x).rstLow = s.rstLow := rfl
@[simp] theorem setPending_rateHigh : (s.setPending x).rateHigh = s.rateHigh := rfl
@[simp] theorem setPending_txOut : (s.setPending x).txOut = s.txOut := rfl
@[simp] theorem setPending_lanes : (s.setPending x).lanes = s.lanes := rfl
@[simp] theorem setPending_intake : (s.setPending x).intake = s.intake := rfl
@[simp] theorem setPending_table : (s.setPending x).table = s.table := rfl
@[simp] theorem setPending_profiles : (s.setPending x).profiles = s.profiles := rfl
@[simp] theorem setPending_cond : (s.setPending x).cond = s.cond := rfl
@[simp] theorem setPending_time : (s.setPending x).time = s.time := rfl
@[simp] theorem setPending_rounds : (s.setPending x).rounds = s.rounds := rfl
@[simp] theorem setPending_free : (s.setPending x).free = s.free := rfl
@[simp] theorem setPending_emptyCutoffs : (s.setPending x).emptyCutoffs = s.emptyCutoffs := rfl
@[simp] theorem setPending_ports : (s.setPending x).ports = s.ports := rfl
@[simp] theorem setPending_drawTimeout : (s.setPending x).drawTimeout = s.drawTimeout := rfl
@[simp] theorem setPending_sweep : (s.setPending x).sweep = s.sweep := rfl
@[simp] theorem setPending_link : (s.setPending x).link = s.link := rfl
@[simp] theorem setPending_notices : (s.setPending x).notices = s.notices := rfl
end

section
variable (x : Bool)
@[simp] theorem setRstLow_pending : (s.setRstLow x).pending = s.pending := rfl
@[simp] theorem setRstLow_rstLow : (s.setRstLow x).rstLow = x := rfl
@[simp] theorem setRstLow_rateHigh : (s.setRstLow x).rateHigh = s.rateHigh := rfl
@[simp] theorem setRstLow_txOut : (s.setRstLow x).txOut = s.txOut := rfl
@[simp] theorem setRstLow_lanes : (s.setRstLow x).lanes = s.lanes := rfl
@[simp] theorem setRstLow_intake : (s.setRstLow x).intake = s.intake := rfl
@[simp] theorem setRstLow_table : (s.setRstLow x).table = s.table := rfl
@[simp] theorem setRstLow_profiles : (s.setRstLow x).profiles = s.profiles := rfl
@[simp] theorem setRstLow_cond : (s.setRstLow x).cond = s.cond := rfl
@[simp] theorem setRstLow_time : (s.setRstLow x).time = s.time := rfl
@[simp] theorem setRstLow_rounds : (s.setRstLow x).rounds = s.rounds := rfl
@[simp] theorem setRstLow_free : (s.setRstLow x).free = s.free := rfl
@[simp] theorem setRstLow_emptyCutoffs : (s.setRstLow x).emptyCutoffs = s.emptyCutoffs := rfl
@[simp] theorem setRstLow_ports : (s.setRstLow x).ports = s.ports := rfl
@[simp] theorem setRstLow_drawTimeout : (s.setRstLow x).drawTimeout = s.drawTimeout := rfl
@[simp] theorem setRstLow_sweep : (s.setRstLow x).sweep = s.sweep := rfl
@[simp] theorem setRstLow_link : (s.setRstLow x).link = s.link := rfl
@[simp] theorem setRstLow_notices : (s.setRstLow x).notices = s.notices := rfl
end

section
variable (x : Bool)
@[simp] theorem setRateHigh_pending : (s.setRateHigh x).pending = s.pending := rfl
@[simp] theorem setRateHigh_rstLow : (s.setRateHigh x).rstLow = s.rstLow := rfl
@[simp] theorem setRateHigh_rateHigh : (s.setRateHigh x).rateHigh = x := rfl
@[simp] theorem setRateHigh_txOut : (s.setRateHigh x).txOut = s.txOut := rfl
@[simp] theorem setRateHigh_lanes : (s.setRateHigh x).lanes = s.lanes := rfl
@[simp] theorem setRateHigh_intake : (s.setRateHigh x).intake = s.intake := rfl
@[simp] theorem setRateHigh_table : (s.setRateHigh x).table = s.table := rfl
@[simp] theorem setRateHigh_profiles : (s.setRateHigh x).profiles = s.profiles := rfl
@[simp] theorem setRateHigh_cond : (s.setRateHigh x).cond = s.cond := rfl
@[simp] theorem setRateHigh_time : (s.setRateHigh x).time = s.time := rfl
@[simp] theorem setRateHigh_rounds : (s.setRateHigh x).rounds = s.rounds := rfl
@[simp] theorem setRateHigh_free : (s.setRateHigh x).free = s.free := rfl
@[simp] theorem setRateHigh_emptyCutoffs : (s.setRateHigh x).emptyCutoffs = s.emptyCutoffs := rfl
@[simp] theorem setRateHigh_ports : (s.setRateHigh x).ports = s.ports := rfl
@[simp] theorem setRateHigh_drawTimeout : (s.setRateHigh x).drawTimeout = s.drawTimeout := rfl
@[simp] theorem setRateHigh_sweep : (s.setRateHigh x).sweep = s.sweep := rfl
@[simp] theorem setRateHigh_link : (s.setRateHigh x).link = s.link := rfl
@[simp] theorem setRateHigh_notices : (s.setRateHigh x).notices = s.notices := rfl
end

section
variable (x : TxOut)
@[simp] theorem setTxOut_pending : (s.setTxOut x).pending = s.pending := rfl
@[simp] theorem setTxOut_rstLow : (s.setTxOut x).rstLow = s.rstLow := rfl
@[simp] theorem setTxOut_rateHigh : (s.setTxOut x).rateHigh = s.rateHigh := rfl
@[simp] theorem setTxOut_txOut : (s.setTxOut x).txOut = x := rfl
@[simp] theorem setTxOut_lanes : (s.setTxOut x).lanes = s.lanes := rfl
@[simp] theorem setTxOut_intake : (s.setTxOut x).intake = s.intake := rfl
@[simp] theorem setTxOut_table : (s.setTxOut x).table = s.table := rfl
@[simp] theorem setTxOut_profiles : (s.setTxOut x).profiles = s.profiles := rfl
@[simp] theorem setTxOut_cond : (s.setTxOut x).cond = s.cond := rfl
@[simp] theorem setTxOut_time : (s.setTxOut x).time = s.time := rfl
@[simp] theorem setTxOut_rounds : (s.setTxOut x).rounds = s.rounds := rfl
@[simp] theorem setTxOut_free : (s.setTxOut x).free = s.free := rfl
@[simp] theorem setTxOut_emptyCutoffs : (s.setTxOut x).emptyCutoffs = s.emptyCutoffs := rfl
@[simp] theorem setTxOut_ports : (s.setTxOut x).ports = s.ports := rfl
@[simp] theorem setTxOut_drawTimeout : (s.setTxOut x).drawTimeout = s.drawTimeout := rfl
@[simp] theorem setTxOut_sweep : (s.setTxOut x).sweep = s.sweep := rfl
@[simp] theorem setTxOut_link : (s.setTxOut x).link = s.link := rfl
@[simp] theorem setTxOut_notices : (s.setTxOut x).notices = s.notices := rfl
end

section
variable (x : Vector Lane 4)
@[simp] theorem setLanes_pending : (s.setLanes x).pending = s.pending := rfl
@[simp] theorem setLanes_rstLow : (s.setLanes x).rstLow = s.rstLow := rfl
@[simp] theorem setLanes_rateHigh : (s.setLanes x).rateHigh = s.rateHigh := rfl
@[simp] theorem setLanes_txOut : (s.setLanes x).txOut = s.txOut := rfl
@[simp] theorem setLanes_lanes : (s.setLanes x).lanes = x := rfl
@[simp] theorem setLanes_intake : (s.setLanes x).intake = s.intake := rfl
@[simp] theorem setLanes_table : (s.setLanes x).table = s.table := rfl
@[simp] theorem setLanes_profiles : (s.setLanes x).profiles = s.profiles := rfl
@[simp] theorem setLanes_cond : (s.setLanes x).cond = s.cond := rfl
@[simp] theorem setLanes_time : (s.setLanes x).time = s.time := rfl
@[simp] theorem setLanes_rounds : (s.setLanes x).rounds = s.rounds := rfl
@[simp] theorem setLanes_free : (s.setLanes x).free = s.free := rfl
@[simp] theorem setLanes_emptyCutoffs : (s.setLanes x).emptyCutoffs = s.emptyCutoffs := rfl
@[simp] theorem setLanes_ports : (s.setLanes x).ports = s.ports := rfl
@[simp] theorem setLanes_drawTimeout : (s.setLanes x).drawTimeout = s.drawTimeout := rfl
@[simp] theorem setLanes_sweep : (s.setLanes x).sweep = s.sweep := rfl
@[simp] theorem setLanes_link : (s.setLanes x).link = s.link := rfl
@[simp] theorem setLanes_notices : (s.setLanes x).notices = s.notices := rfl
end

section
variable (x : Intake)
@[simp] theorem setIntake_pending : (s.setIntake x).pending = s.pending := rfl
@[simp] theorem setIntake_rstLow : (s.setIntake x).rstLow = s.rstLow := rfl
@[simp] theorem setIntake_rateHigh : (s.setIntake x).rateHigh = s.rateHigh := rfl
@[simp] theorem setIntake_txOut : (s.setIntake x).txOut = s.txOut := rfl
@[simp] theorem setIntake_lanes : (s.setIntake x).lanes = s.lanes := rfl
@[simp] theorem setIntake_intake : (s.setIntake x).intake = x := rfl
@[simp] theorem setIntake_table : (s.setIntake x).table = s.table := rfl
@[simp] theorem setIntake_profiles : (s.setIntake x).profiles = s.profiles := rfl
@[simp] theorem setIntake_cond : (s.setIntake x).cond = s.cond := rfl
@[simp] theorem setIntake_time : (s.setIntake x).time = s.time := rfl
@[simp] theorem setIntake_rounds : (s.setIntake x).rounds = s.rounds := rfl
@[simp] theorem setIntake_free : (s.setIntake x).free = s.free := rfl
@[simp] theorem setIntake_emptyCutoffs : (s.setIntake x).emptyCutoffs = s.emptyCutoffs := rfl
@[simp] theorem setIntake_ports : (s.setIntake x).ports = s.ports := rfl
@[simp] theorem setIntake_drawTimeout : (s.setIntake x).drawTimeout = s.drawTimeout := rfl
@[simp] theorem setIntake_sweep : (s.setIntake x).sweep = s.sweep := rfl
@[simp] theorem setIntake_link : (s.setIntake x).link = s.link := rfl
@[simp] theorem setIntake_notices : (s.setIntake x).notices = s.notices := rfl
end

section
variable (x : BinTable)
@[simp] theorem setTable_pending : (s.setTable x).pending = s.pending := rfl
@[simp] theorem setTable_rstLow : (s.setTable x).rstLow = s.rstLow := rfl
@[simp] theorem setTable_rateHigh : (s.setTable x).rateHigh = s.rateHigh := rfl
@[simp] theorem setTable_txOut : (s.setTable x).txOut = s.txOut := rfl
@[simp] theorem setTable_lanes : (s.setTable x).lanes = s.lanes := rfl
@[simp] theorem setTable_intake : (s.setTable x).intake = s.intake := rfl
@[simp] theorem setTable_table : (s.setTable x).table = x := rfl
@[simp] theorem setTable_profiles : (s.setTable x).profiles = s.profiles := rfl
@[simp] theorem setTable_cond : (s.setTable x).cond = s.cond := rfl
@[simp] theorem setTable_time : (s.setTable x).time = s.time := rfl
@[simp] theorem setTable_rounds : (s.setTable x).rounds = s.rounds := rfl
@[simp] theorem setTable_free : (s.setTable x).free = s.free := rfl
@[simp] theorem setTable_emptyCutoffs : (s.setTable x).emptyCutoffs = s.emptyCutoffs := rfl
@[simp] theorem setTable_ports : (s.setTable x).ports = s.ports := rfl
@[simp] theorem setTable_drawTimeout : (s.setTable x).drawTimeout = s.drawTimeout := rfl
@[simp] theorem setTable_sweep : (s.setTable x).sweep = s.sweep := rfl
@[simp] theorem setTable_link : (s.setTable x).link = s.link := rfl
@[simp] theorem setTable_notices : (s.setTable x).notices = s.notices := rfl
end

section
variable (x : Vector Profile 16)
@[simp] theorem setProfiles_pending : (s.setProfiles x).pending = s.pending := rfl
@[simp] theorem setProfiles_rstLow : (s.setProfiles x).rstLow = s.rstLow := rfl
@[simp] theorem setProfiles_rateHigh : (s.setProfiles x).rateHigh = s.rateHigh := rfl
@[simp] theorem setProfiles_txOut : (s.setProfiles x).txOut = s.txOut := rfl
@[simp] theorem setProfiles_lanes : (s.setProfiles x).lanes = s.lanes := rfl
@[simp] theorem setProfiles_intake : (s.setProfiles x).intake = s.intake := rfl
@[simp] theorem setProfiles_table : (s.setProfiles x).table = s.table := rfl
@[simp] theorem setProfiles_profiles : (s.setProfiles x).profiles = x := rfl
@[simp] theorem setProfiles_cond : (s.setProfiles x).cond = s.cond := rfl
@[simp] theorem setProfiles_time : (s.setProfiles x).time = s.time := rfl
@[simp] theorem setProfiles_rounds : (s.setProfiles x).rounds = s.rounds := rfl
@[simp] theorem setProfiles_free : (s.setProfiles x).free = s.free := rfl
@[simp] theorem setProfiles_emptyCutoffs : (s.setProfiles x).emptyCutoffs = s.emptyCutoffs := rfl
@[simp] theorem setProfiles_ports : (s.setProfiles x).ports = s.ports := rfl
@[simp] theorem setProfiles_drawTimeout : (s.setProfiles x).drawTimeout = s.drawTimeout := rfl
@[simp] theorem setProfiles_sweep : (s.setProfiles x).sweep = s.sweep := rfl
@[simp] theorem setProfiles_link : (s.setProfiles x).link = s.link := rfl
@[simp] theorem setProfiles_notices : (s.setProfiles x).notices = s.notices := rfl
end

section
variable (x : CondUnit)
@[simp] theorem setCond_pending : (s.setCond x).pending = s.pending := rfl
@[simp] theorem setCond_rstLow : (s.setCond x).rstLow = s.rstLow := rfl
@[simp] theorem setCond_rateHigh : (s.setCond x).rateHigh = s.rateHigh := rfl
@[simp] theorem setCond_txOut : (s.setCond x).txOut = s.txOut := rfl
@[simp] theorem setCond_lanes : (s.setCond x).lanes = s.lanes := rfl
@[simp] theorem setCond_intake : (s.setCond x).intake = s.intake := rfl
@[simp] theorem setCond_table : (s.setCond x).table = s.table := rfl
@[simp] theorem setCond_profiles : (s.setCond x).profiles = s.profiles := rfl
@[simp] theorem setCond_cond : (s.setCond x).cond = x := rfl
@[simp] theorem setCond_time : (s.setCond x).time = s.time := rfl
@[simp] theorem setCond_rounds : (s.setCond x).rounds = s.rounds := rfl
@[simp] theorem setCond_free : (s.setCond x).free = s.free := rfl
@[simp] theorem setCond_emptyCutoffs : (s.setCond x).emptyCutoffs = s.emptyCutoffs := rfl
@[simp] theorem setCond_ports : (s.setCond x).ports = s.ports := rfl
@[simp] theorem setCond_drawTimeout : (s.setCond x).drawTimeout = s.drawTimeout := rfl
@[simp] theorem setCond_sweep : (s.setCond x).sweep = s.sweep := rfl
@[simp] theorem setCond_link : (s.setCond x).link = s.link := rfl
@[simp] theorem setCond_notices : (s.setCond x).notices = s.notices := rfl
end

section
variable (x : TimeBase)
@[simp] theorem setTime_pending : (s.setTime x).pending = s.pending := rfl
@[simp] theorem setTime_rstLow : (s.setTime x).rstLow = s.rstLow := rfl
@[simp] theorem setTime_rateHigh : (s.setTime x).rateHigh = s.rateHigh := rfl
@[simp] theorem setTime_txOut : (s.setTime x).txOut = s.txOut := rfl
@[simp] theorem setTime_lanes : (s.setTime x).lanes = s.lanes := rfl
@[simp] theorem setTime_intake : (s.setTime x).intake = s.intake := rfl
@[simp] theorem setTime_table : (s.setTime x).table = s.table := rfl
@[simp] theorem setTime_profiles : (s.setTime x).profiles = s.profiles := rfl
@[simp] theorem setTime_cond : (s.setTime x).cond = s.cond := rfl
@[simp] theorem setTime_time : (s.setTime x).time = x := rfl
@[simp] theorem setTime_rounds : (s.setTime x).rounds = s.rounds := rfl
@[simp] theorem setTime_free : (s.setTime x).free = s.free := rfl
@[simp] theorem setTime_emptyCutoffs : (s.setTime x).emptyCutoffs = s.emptyCutoffs := rfl
@[simp] theorem setTime_ports : (s.setTime x).ports = s.ports := rfl
@[simp] theorem setTime_drawTimeout : (s.setTime x).drawTimeout = s.drawTimeout := rfl
@[simp] theorem setTime_sweep : (s.setTime x).sweep = s.sweep := rfl
@[simp] theorem setTime_link : (s.setTime x).link = s.link := rfl
@[simp] theorem setTime_notices : (s.setTime x).notices = s.notices := rfl
end

section
variable (x : Vector Round 64)
@[simp] theorem setRounds_pending : (s.setRounds x).pending = s.pending := rfl
@[simp] theorem setRounds_rstLow : (s.setRounds x).rstLow = s.rstLow := rfl
@[simp] theorem setRounds_rateHigh : (s.setRounds x).rateHigh = s.rateHigh := rfl
@[simp] theorem setRounds_txOut : (s.setRounds x).txOut = s.txOut := rfl
@[simp] theorem setRounds_lanes : (s.setRounds x).lanes = s.lanes := rfl
@[simp] theorem setRounds_intake : (s.setRounds x).intake = s.intake := rfl
@[simp] theorem setRounds_table : (s.setRounds x).table = s.table := rfl
@[simp] theorem setRounds_profiles : (s.setRounds x).profiles = s.profiles := rfl
@[simp] theorem setRounds_cond : (s.setRounds x).cond = s.cond := rfl
@[simp] theorem setRounds_time : (s.setRounds x).time = s.time := rfl
@[simp] theorem setRounds_rounds : (s.setRounds x).rounds = x := rfl
@[simp] theorem setRounds_free : (s.setRounds x).free = s.free := rfl
@[simp] theorem setRounds_emptyCutoffs : (s.setRounds x).emptyCutoffs = s.emptyCutoffs := rfl
@[simp] theorem setRounds_ports : (s.setRounds x).ports = s.ports := rfl
@[simp] theorem setRounds_drawTimeout : (s.setRounds x).drawTimeout = s.drawTimeout := rfl
@[simp] theorem setRounds_sweep : (s.setRounds x).sweep = s.sweep := rfl
@[simp] theorem setRounds_link : (s.setRounds x).link = s.link := rfl
@[simp] theorem setRounds_notices : (s.setRounds x).notices = s.notices := rfl
end

section
variable (x : Nat)
@[simp] theorem setFree_pending : (s.setFree x).pending = s.pending := rfl
@[simp] theorem setFree_rstLow : (s.setFree x).rstLow = s.rstLow := rfl
@[simp] theorem setFree_rateHigh : (s.setFree x).rateHigh = s.rateHigh := rfl
@[simp] theorem setFree_txOut : (s.setFree x).txOut = s.txOut := rfl
@[simp] theorem setFree_lanes : (s.setFree x).lanes = s.lanes := rfl
@[simp] theorem setFree_intake : (s.setFree x).intake = s.intake := rfl
@[simp] theorem setFree_table : (s.setFree x).table = s.table := rfl
@[simp] theorem setFree_profiles : (s.setFree x).profiles = s.profiles := rfl
@[simp] theorem setFree_cond : (s.setFree x).cond = s.cond := rfl
@[simp] theorem setFree_time : (s.setFree x).time = s.time := rfl
@[simp] theorem setFree_rounds : (s.setFree x).rounds = s.rounds := rfl
@[simp] theorem setFree_free : (s.setFree x).free = x := rfl
@[simp] theorem setFree_emptyCutoffs : (s.setFree x).emptyCutoffs = s.emptyCutoffs := rfl
@[simp] theorem setFree_ports : (s.setFree x).ports = s.ports := rfl
@[simp] theorem setFree_drawTimeout : (s.setFree x).drawTimeout = s.drawTimeout := rfl
@[simp] theorem setFree_sweep : (s.setFree x).sweep = s.sweep := rfl
@[simp] theorem setFree_link : (s.setFree x).link = s.link := rfl
@[simp] theorem setFree_notices : (s.setFree x).notices = s.notices := rfl
end

section
variable (x : Word32)
@[simp] theorem setEmptyCutoffs_pending : (s.setEmptyCutoffs x).pending = s.pending := rfl
@[simp] theorem setEmptyCutoffs_rstLow : (s.setEmptyCutoffs x).rstLow = s.rstLow := rfl
@[simp] theorem setEmptyCutoffs_rateHigh : (s.setEmptyCutoffs x).rateHigh = s.rateHigh := rfl
@[simp] theorem setEmptyCutoffs_txOut : (s.setEmptyCutoffs x).txOut = s.txOut := rfl
@[simp] theorem setEmptyCutoffs_lanes : (s.setEmptyCutoffs x).lanes = s.lanes := rfl
@[simp] theorem setEmptyCutoffs_intake : (s.setEmptyCutoffs x).intake = s.intake := rfl
@[simp] theorem setEmptyCutoffs_table : (s.setEmptyCutoffs x).table = s.table := rfl
@[simp] theorem setEmptyCutoffs_profiles : (s.setEmptyCutoffs x).profiles = s.profiles := rfl
@[simp] theorem setEmptyCutoffs_cond : (s.setEmptyCutoffs x).cond = s.cond := rfl
@[simp] theorem setEmptyCutoffs_time : (s.setEmptyCutoffs x).time = s.time := rfl
@[simp] theorem setEmptyCutoffs_rounds : (s.setEmptyCutoffs x).rounds = s.rounds := rfl
@[simp] theorem setEmptyCutoffs_free : (s.setEmptyCutoffs x).free = s.free := rfl
@[simp] theorem setEmptyCutoffs_emptyCutoffs : (s.setEmptyCutoffs x).emptyCutoffs = x := rfl
@[simp] theorem setEmptyCutoffs_ports : (s.setEmptyCutoffs x).ports = s.ports := rfl
@[simp] theorem setEmptyCutoffs_drawTimeout : (s.setEmptyCutoffs x).drawTimeout = s.drawTimeout := rfl
@[simp] theorem setEmptyCutoffs_sweep : (s.setEmptyCutoffs x).sweep = s.sweep := rfl
@[simp] theorem setEmptyCutoffs_link : (s.setEmptyCutoffs x).link = s.link := rfl
@[simp] theorem setEmptyCutoffs_notices : (s.setEmptyCutoffs x).notices = s.notices := rfl
end

section
variable (x : Vector Port 4)
@[simp] theorem setPorts_pending : (s.setPorts x).pending = s.pending := rfl
@[simp] theorem setPorts_rstLow : (s.setPorts x).rstLow = s.rstLow := rfl
@[simp] theorem setPorts_rateHigh : (s.setPorts x).rateHigh = s.rateHigh := rfl
@[simp] theorem setPorts_txOut : (s.setPorts x).txOut = s.txOut := rfl
@[simp] theorem setPorts_lanes : (s.setPorts x).lanes = s.lanes := rfl
@[simp] theorem setPorts_intake : (s.setPorts x).intake = s.intake := rfl
@[simp] theorem setPorts_table : (s.setPorts x).table = s.table := rfl
@[simp] theorem setPorts_profiles : (s.setPorts x).profiles = s.profiles := rfl
@[simp] theorem setPorts_cond : (s.setPorts x).cond = s.cond := rfl
@[simp] theorem setPorts_time : (s.setPorts x).time = s.time := rfl
@[simp] theorem setPorts_rounds : (s.setPorts x).rounds = s.rounds := rfl
@[simp] theorem setPorts_free : (s.setPorts x).free = s.free := rfl
@[simp] theorem setPorts_emptyCutoffs : (s.setPorts x).emptyCutoffs = s.emptyCutoffs := rfl
@[simp] theorem setPorts_ports : (s.setPorts x).ports = x := rfl
@[simp] theorem setPorts_drawTimeout : (s.setPorts x).drawTimeout = s.drawTimeout := rfl
@[simp] theorem setPorts_sweep : (s.setPorts x).sweep = s.sweep := rfl
@[simp] theorem setPorts_link : (s.setPorts x).link = s.link := rfl
@[simp] theorem setPorts_notices : (s.setPorts x).notices = s.notices := rfl
end

section
variable (x : Nat)
@[simp] theorem setDrawTimeout_pending : (s.setDrawTimeout x).pending = s.pending := rfl
@[simp] theorem setDrawTimeout_rstLow : (s.setDrawTimeout x).rstLow = s.rstLow := rfl
@[simp] theorem setDrawTimeout_rateHigh : (s.setDrawTimeout x).rateHigh = s.rateHigh := rfl
@[simp] theorem setDrawTimeout_txOut : (s.setDrawTimeout x).txOut = s.txOut := rfl
@[simp] theorem setDrawTimeout_lanes : (s.setDrawTimeout x).lanes = s.lanes := rfl
@[simp] theorem setDrawTimeout_intake : (s.setDrawTimeout x).intake = s.intake := rfl
@[simp] theorem setDrawTimeout_table : (s.setDrawTimeout x).table = s.table := rfl
@[simp] theorem setDrawTimeout_profiles : (s.setDrawTimeout x).profiles = s.profiles := rfl
@[simp] theorem setDrawTimeout_cond : (s.setDrawTimeout x).cond = s.cond := rfl
@[simp] theorem setDrawTimeout_time : (s.setDrawTimeout x).time = s.time := rfl
@[simp] theorem setDrawTimeout_rounds : (s.setDrawTimeout x).rounds = s.rounds := rfl
@[simp] theorem setDrawTimeout_free : (s.setDrawTimeout x).free = s.free := rfl
@[simp] theorem setDrawTimeout_emptyCutoffs : (s.setDrawTimeout x).emptyCutoffs = s.emptyCutoffs := rfl
@[simp] theorem setDrawTimeout_ports : (s.setDrawTimeout x).ports = s.ports := rfl
@[simp] theorem setDrawTimeout_drawTimeout : (s.setDrawTimeout x).drawTimeout = x := rfl
@[simp] theorem setDrawTimeout_sweep : (s.setDrawTimeout x).sweep = s.sweep := rfl
@[simp] theorem setDrawTimeout_link : (s.setDrawTimeout x).link = s.link := rfl
@[simp] theorem setDrawTimeout_notices : (s.setDrawTimeout x).notices = s.notices := rfl
end

section
variable (x : Sweep)
@[simp] theorem setSweep_pending : (s.setSweep x).pending = s.pending := rfl
@[simp] theorem setSweep_rstLow : (s.setSweep x).rstLow = s.rstLow := rfl
@[simp] theorem setSweep_rateHigh : (s.setSweep x).rateHigh = s.rateHigh := rfl
@[simp] theorem setSweep_txOut : (s.setSweep x).txOut = s.txOut := rfl
@[simp] theorem setSweep_lanes : (s.setSweep x).lanes = s.lanes := rfl
@[simp] theorem setSweep_intake : (s.setSweep x).intake = s.intake := rfl
@[simp] theorem setSweep_table : (s.setSweep x).table = s.table := rfl
@[simp] theorem setSweep_profiles : (s.setSweep x).profiles = s.profiles := rfl
@[simp] theorem setSweep_cond : (s.setSweep x).cond = s.cond := rfl
@[simp] theorem setSweep_time : (s.setSweep x).time = s.time := rfl
@[simp] theorem setSweep_rounds : (s.setSweep x).rounds = s.rounds := rfl
@[simp] theorem setSweep_free : (s.setSweep x).free = s.free := rfl
@[simp] theorem setSweep_emptyCutoffs : (s.setSweep x).emptyCutoffs = s.emptyCutoffs := rfl
@[simp] theorem setSweep_ports : (s.setSweep x).ports = s.ports := rfl
@[simp] theorem setSweep_drawTimeout : (s.setSweep x).drawTimeout = s.drawTimeout := rfl
@[simp] theorem setSweep_sweep : (s.setSweep x).sweep = x := rfl
@[simp] theorem setSweep_link : (s.setSweep x).link = s.link := rfl
@[simp] theorem setSweep_notices : (s.setSweep x).notices = s.notices := rfl
end

section
variable (x : Link)
@[simp] theorem setLink_pending : (s.setLink x).pending = s.pending := rfl
@[simp] theorem setLink_rstLow : (s.setLink x).rstLow = s.rstLow := rfl
@[simp] theorem setLink_rateHigh : (s.setLink x).rateHigh = s.rateHigh := rfl
@[simp] theorem setLink_txOut : (s.setLink x).txOut = s.txOut := rfl
@[simp] theorem setLink_lanes : (s.setLink x).lanes = s.lanes := rfl
@[simp] theorem setLink_intake : (s.setLink x).intake = s.intake := rfl
@[simp] theorem setLink_table : (s.setLink x).table = s.table := rfl
@[simp] theorem setLink_profiles : (s.setLink x).profiles = s.profiles := rfl
@[simp] theorem setLink_cond : (s.setLink x).cond = s.cond := rfl
@[simp] theorem setLink_time : (s.setLink x).time = s.time := rfl
@[simp] theorem setLink_rounds : (s.setLink x).rounds = s.rounds := rfl
@[simp] theorem setLink_free : (s.setLink x).free = s.free := rfl
@[simp] theorem setLink_emptyCutoffs : (s.setLink x).emptyCutoffs = s.emptyCutoffs := rfl
@[simp] theorem setLink_ports : (s.setLink x).ports = s.ports := rfl
@[simp] theorem setLink_drawTimeout : (s.setLink x).drawTimeout = s.drawTimeout := rfl
@[simp] theorem setLink_sweep : (s.setLink x).sweep = s.sweep := rfl
@[simp] theorem setLink_link : (s.setLink x).link = x := rfl
@[simp] theorem setLink_notices : (s.setLink x).notices = s.notices := rfl
end

section
variable (x : Notices)
@[simp] theorem setNotices_pending : (s.setNotices x).pending = s.pending := rfl
@[simp] theorem setNotices_rstLow : (s.setNotices x).rstLow = s.rstLow := rfl
@[simp] theorem setNotices_rateHigh : (s.setNotices x).rateHigh = s.rateHigh := rfl
@[simp] theorem setNotices_txOut : (s.setNotices x).txOut = s.txOut := rfl
@[simp] theorem setNotices_lanes : (s.setNotices x).lanes = s.lanes := rfl
@[simp] theorem setNotices_intake : (s.setNotices x).intake = s.intake := rfl
@[simp] theorem setNotices_table : (s.setNotices x).table = s.table := rfl
@[simp] theorem setNotices_profiles : (s.setNotices x).profiles = s.profiles := rfl
@[simp] theorem setNotices_cond : (s.setNotices x).cond = s.cond := rfl
@[simp] theorem setNotices_time : (s.setNotices x).time = s.time := rfl
@[simp] theorem setNotices_rounds : (s.setNotices x).rounds = s.rounds := rfl
@[simp] theorem setNotices_free : (s.setNotices x).free = s.free := rfl
@[simp] theorem setNotices_emptyCutoffs : (s.setNotices x).emptyCutoffs = s.emptyCutoffs := rfl
@[simp] theorem setNotices_ports : (s.setNotices x).ports = s.ports := rfl
@[simp] theorem setNotices_drawTimeout : (s.setNotices x).drawTimeout = s.drawTimeout := rfl
@[simp] theorem setNotices_sweep : (s.setNotices x).sweep = s.sweep := rfl
@[simp] theorem setNotices_link : (s.setNotices x).link = s.link := rfl
@[simp] theorem setNotices_notices : (s.setNotices x).notices = x := rfl
end

section
variable (i : Fin 64) (x : Round)
@[simp] theorem setRound_pending : (s.setRound i x).pending = s.pending := rfl
@[simp] theorem setRound_rstLow : (s.setRound i x).rstLow = s.rstLow := rfl
@[simp] theorem setRound_rateHigh : (s.setRound i x).rateHigh = s.rateHigh := rfl
@[simp] theorem setRound_txOut : (s.setRound i x).txOut = s.txOut := rfl
@[simp] theorem setRound_lanes : (s.setRound i x).lanes = s.lanes := rfl
@[simp] theorem setRound_intake : (s.setRound i x).intake = s.intake := rfl
@[simp] theorem setRound_table : (s.setRound i x).table = s.table := rfl
@[simp] theorem setRound_profiles : (s.setRound i x).profiles = s.profiles := rfl
@[simp] theorem setRound_cond : (s.setRound i x).cond = s.cond := rfl
@[simp] theorem setRound_time : (s.setRound i x).time = s.time := rfl
@[simp] theorem setRound_rounds : (s.setRound i x).rounds = Vec.put s.rounds i x := rfl
@[simp] theorem setRound_free : (s.setRound i x).free = s.free := rfl
@[simp] theorem setRound_emptyCutoffs : (s.setRound i x).emptyCutoffs = s.emptyCutoffs := rfl
@[simp] theorem setRound_ports : (s.setRound i x).ports = s.ports := rfl
@[simp] theorem setRound_drawTimeout : (s.setRound i x).drawTimeout = s.drawTimeout := rfl
@[simp] theorem setRound_sweep : (s.setRound i x).sweep = s.sweep := rfl
@[simp] theorem setRound_link : (s.setRound i x).link = s.link := rfl
@[simp] theorem setRound_notices : (s.setRound i x).notices = s.notices := rfl
end

section
variable (i : Fin 4) (x : Port)
@[simp] theorem setPort_pending : (s.setPort i x).pending = s.pending := rfl
@[simp] theorem setPort_rstLow : (s.setPort i x).rstLow = s.rstLow := rfl
@[simp] theorem setPort_rateHigh : (s.setPort i x).rateHigh = s.rateHigh := rfl
@[simp] theorem setPort_txOut : (s.setPort i x).txOut = s.txOut := rfl
@[simp] theorem setPort_lanes : (s.setPort i x).lanes = s.lanes := rfl
@[simp] theorem setPort_intake : (s.setPort i x).intake = s.intake := rfl
@[simp] theorem setPort_table : (s.setPort i x).table = s.table := rfl
@[simp] theorem setPort_profiles : (s.setPort i x).profiles = s.profiles := rfl
@[simp] theorem setPort_cond : (s.setPort i x).cond = s.cond := rfl
@[simp] theorem setPort_time : (s.setPort i x).time = s.time := rfl
@[simp] theorem setPort_rounds : (s.setPort i x).rounds = s.rounds := rfl
@[simp] theorem setPort_free : (s.setPort i x).free = s.free := rfl
@[simp] theorem setPort_emptyCutoffs : (s.setPort i x).emptyCutoffs = s.emptyCutoffs := rfl
@[simp] theorem setPort_ports : (s.setPort i x).ports = Vec.put s.ports i x := rfl
@[simp] theorem setPort_drawTimeout : (s.setPort i x).drawTimeout = s.drawTimeout := rfl
@[simp] theorem setPort_sweep : (s.setPort i x).sweep = s.sweep := rfl
@[simp] theorem setPort_link : (s.setPort i x).link = s.link := rfl
@[simp] theorem setPort_notices : (s.setPort i x).notices = s.notices := rfl
end

section
variable (i : Fin 4) (x : Lane)
@[simp] theorem setLane_pending : (s.setLane i x).pending = s.pending := rfl
@[simp] theorem setLane_rstLow : (s.setLane i x).rstLow = s.rstLow := rfl
@[simp] theorem setLane_rateHigh : (s.setLane i x).rateHigh = s.rateHigh := rfl
@[simp] theorem setLane_txOut : (s.setLane i x).txOut = s.txOut := rfl
@[simp] theorem setLane_lanes : (s.setLane i x).lanes = Vec.put s.lanes i x := rfl
@[simp] theorem setLane_intake : (s.setLane i x).intake = s.intake := rfl
@[simp] theorem setLane_table : (s.setLane i x).table = s.table := rfl
@[simp] theorem setLane_profiles : (s.setLane i x).profiles = s.profiles := rfl
@[simp] theorem setLane_cond : (s.setLane i x).cond = s.cond := rfl
@[simp] theorem setLane_time : (s.setLane i x).time = s.time := rfl
@[simp] theorem setLane_rounds : (s.setLane i x).rounds = s.rounds := rfl
@[simp] theorem setLane_free : (s.setLane i x).free = s.free := rfl
@[simp] theorem setLane_emptyCutoffs : (s.setLane i x).emptyCutoffs = s.emptyCutoffs := rfl
@[simp] theorem setLane_ports : (s.setLane i x).ports = s.ports := rfl
@[simp] theorem setLane_drawTimeout : (s.setLane i x).drawTimeout = s.drawTimeout := rfl
@[simp] theorem setLane_sweep : (s.setLane i x).sweep = s.sweep := rfl
@[simp] theorem setLane_link : (s.setLane i x).link = s.link := rfl
@[simp] theorem setLane_notices : (s.setLane i x).notices = s.notices := rfl
end

section
variable (i : Nat) (x : BinRecord)
@[simp] theorem writeRecord_pending : (s.writeRecord i x).pending = s.pending := rfl
@[simp] theorem writeRecord_rstLow : (s.writeRecord i x).rstLow = s.rstLow := rfl
@[simp] theorem writeRecord_rateHigh : (s.writeRecord i x).rateHigh = s.rateHigh := rfl
@[simp] theorem writeRecord_txOut : (s.writeRecord i x).txOut = s.txOut := rfl
@[simp] theorem writeRecord_lanes : (s.writeRecord i x).lanes = s.lanes := rfl
@[simp] theorem writeRecord_intake : (s.writeRecord i x).intake = s.intake := rfl
@[simp] theorem writeRecord_table : (s.writeRecord i x).table = s.table.put i (.live x 0) := rfl
@[simp] theorem writeRecord_profiles : (s.writeRecord i x).profiles = s.profiles := rfl
@[simp] theorem writeRecord_cond : (s.writeRecord i x).cond = s.cond := rfl
@[simp] theorem writeRecord_time : (s.writeRecord i x).time = s.time := rfl
@[simp] theorem writeRecord_rounds : (s.writeRecord i x).rounds = s.rounds := rfl
@[simp] theorem writeRecord_free : (s.writeRecord i x).free = s.free := rfl
@[simp] theorem writeRecord_emptyCutoffs : (s.writeRecord i x).emptyCutoffs = s.emptyCutoffs := rfl
@[simp] theorem writeRecord_ports : (s.writeRecord i x).ports = s.ports := rfl
@[simp] theorem writeRecord_drawTimeout : (s.writeRecord i x).drawTimeout = s.drawTimeout := rfl
@[simp] theorem writeRecord_sweep : (s.writeRecord i x).sweep = s.sweep := rfl
@[simp] theorem writeRecord_link : (s.writeRecord i x).link = s.link := rfl
@[simp] theorem writeRecord_notices : (s.writeRecord i x).notices = s.notices := rfl
end

/-! ## An update made twice, and an update that changes nothing -/

@[simp] theorem setPending_setPending (x y : List Instr) : (s.setPending x).setPending y = s.setPending y := rfl
@[simp] theorem setPending_self : s.setPending s.pending = s := rfl
@[simp] theorem setRstLow_setRstLow (x y : Bool) : (s.setRstLow x).setRstLow y = s.setRstLow y := rfl
@[simp] theorem setRstLow_self : s.setRstLow s.rstLow = s := rfl
@[simp] theorem setRateHigh_setRateHigh (x y : Bool) : (s.setRateHigh x).setRateHigh y = s.setRateHigh y := rfl
@[simp] theorem setRateHigh_self : s.setRateHigh s.rateHigh = s := rfl
@[simp] theorem setTxOut_setTxOut (x y : TxOut) : (s.setTxOut x).setTxOut y = s.setTxOut y := rfl
@[simp] theorem setTxOut_self : s.setTxOut s.txOut = s := rfl
@[simp] theorem setLanes_setLanes (x y : Vector Lane 4) : (s.setLanes x).setLanes y = s.setLanes y := rfl
@[simp] theorem setLanes_self : s.setLanes s.lanes = s := rfl
@[simp] theorem setIntake_setIntake (x y : Intake) : (s.setIntake x).setIntake y = s.setIntake y := rfl
@[simp] theorem setIntake_self : s.setIntake s.intake = s := rfl
@[simp] theorem setTable_setTable (x y : BinTable) : (s.setTable x).setTable y = s.setTable y := rfl
@[simp] theorem setTable_self : s.setTable s.table = s := rfl
@[simp] theorem setProfiles_setProfiles (x y : Vector Profile 16) : (s.setProfiles x).setProfiles y = s.setProfiles y := rfl
@[simp] theorem setProfiles_self : s.setProfiles s.profiles = s := rfl
@[simp] theorem setCond_setCond (x y : CondUnit) : (s.setCond x).setCond y = s.setCond y := rfl
@[simp] theorem setCond_self : s.setCond s.cond = s := rfl
@[simp] theorem setTime_setTime (x y : TimeBase) : (s.setTime x).setTime y = s.setTime y := rfl
@[simp] theorem setTime_self : s.setTime s.time = s := rfl
@[simp] theorem setRounds_setRounds (x y : Vector Round 64) : (s.setRounds x).setRounds y = s.setRounds y := rfl
@[simp] theorem setRounds_self : s.setRounds s.rounds = s := rfl
@[simp] theorem setFree_setFree (x y : Nat) : (s.setFree x).setFree y = s.setFree y := rfl
@[simp] theorem setFree_self : s.setFree s.free = s := rfl
@[simp] theorem setEmptyCutoffs_setEmptyCutoffs (x y : Word32) : (s.setEmptyCutoffs x).setEmptyCutoffs y = s.setEmptyCutoffs y := rfl
@[simp] theorem setEmptyCutoffs_self : s.setEmptyCutoffs s.emptyCutoffs = s := rfl
@[simp] theorem setPorts_setPorts (x y : Vector Port 4) : (s.setPorts x).setPorts y = s.setPorts y := rfl
@[simp] theorem setPorts_self : s.setPorts s.ports = s := rfl
@[simp] theorem setDrawTimeout_setDrawTimeout (x y : Nat) : (s.setDrawTimeout x).setDrawTimeout y = s.setDrawTimeout y := rfl
@[simp] theorem setDrawTimeout_self : s.setDrawTimeout s.drawTimeout = s := rfl
@[simp] theorem setSweep_setSweep (x y : Sweep) : (s.setSweep x).setSweep y = s.setSweep y := rfl
@[simp] theorem setSweep_self : s.setSweep s.sweep = s := rfl
@[simp] theorem setLink_setLink (x y : Link) : (s.setLink x).setLink y = s.setLink y := rfl
@[simp] theorem setLink_self : s.setLink s.link = s := rfl
@[simp] theorem setNotices_setNotices (x y : Notices) : (s.setNotices x).setNotices y = s.setNotices y := rfl
@[simp] theorem setNotices_self : s.setNotices s.notices = s := rfl

end Sys2Proof.Machine
end

