-- ==== Sys2Proof/Laws/Frames.lean ====
section
/-! SUPPORT. What each shared operation leaves unchanged: one lemma per operation, naming every field of the state
that the operation cannot touch. -/

namespace Sys2Proof.Machine

@[simp] theorem countKind_frame (s : State) (k : Kind) :
    (countKind s k).pending = s.pending ∧ (countKind s k).rstLow = s.rstLow ∧
    (countKind s k).rateHigh = s.rateHigh ∧ (countKind s k).txOut = s.txOut ∧ (countKind s k).lanes = s.lanes ∧
    (countKind s k).intake = s.intake ∧ (countKind s k).table = s.table ∧ (countKind s k).profiles = s.profiles ∧
    (countKind s k).time = s.time ∧ (countKind s k).rounds = s.rounds ∧ (countKind s k).free = s.free ∧
    (countKind s k).emptyCutoffs = s.emptyCutoffs ∧ (countKind s k).ports = s.ports ∧
    (countKind s k).drawTimeout = s.drawTimeout ∧ (countKind s k).sweep = s.sweep ∧ (countKind s k).link = s.link ∧
    (countKind s k).notices = s.notices := by
  simp [countKind]

@[simp] theorem noteKind_frame (s : State) (k : Kind) (x : Option Subject) (n : Word32) :
    (noteKind s k x n).pending = s.pending ∧ (noteKind s k x n).rstLow = s.rstLow ∧
    (noteKind s k x n).rateHigh = s.rateHigh ∧ (noteKind s k x n).txOut = s.txOut ∧
    (noteKind s k x n).lanes = s.lanes ∧ (noteKind s k x n).intake = s.intake ∧
    (noteKind s k x n).table = s.table ∧ (noteKind s k x n).profiles = s.profiles ∧
    (noteKind s k x n).cond = s.cond ∧ (noteKind s k x n).time = s.time ∧ (noteKind s k x n).rounds = s.rounds ∧
    (noteKind s k x n).free = s.free ∧ (noteKind s k x n).emptyCutoffs = s.emptyCutoffs ∧
    (noteKind s k x n).ports = s.ports ∧ (noteKind s k x n).drawTimeout = s.drawTimeout ∧
    (noteKind s k x n).sweep = s.sweep ∧ (noteKind s k x n).link = s.link := by
  simp [noteKind]

@[simp] theorem deferKind_frame (s : State) (k : Kind) (x : Subject) :
    (deferKind s k x).pending = s.pending ∧ (deferKind s k x).rstLow = s.rstLow ∧
    (deferKind s k x).rateHigh = s.rateHigh ∧ (deferKind s k x).txOut = s.txOut ∧
    (deferKind s k x).lanes = s.lanes ∧ (deferKind s k x).intake = s.intake ∧ (deferKind s k x).table = s.table ∧
    (deferKind s k x).profiles = s.profiles ∧ (deferKind s k x).time = s.time ∧
    (deferKind s k x).rounds = s.rounds ∧ (deferKind s k x).free = s.free ∧
    (deferKind s k x).emptyCutoffs = s.emptyCutoffs ∧ (deferKind s k x).ports = s.ports ∧
    (deferKind s k x).drawTimeout = s.drawTimeout ∧ (deferKind s k x).sweep = s.sweep ∧
    (deferKind s k x).link = s.link ∧ (deferKind s k x).notices = s.notices := by
  simp [deferKind]

@[simp] theorem dispose_frame (s : State) (k : Kind) (x : Subject) (a : Action) :
    (dispose s k x a).pending = s.pending ∧ (dispose s k x a).rstLow = s.rstLow ∧
    (dispose s k x a).rateHigh = s.rateHigh ∧ (dispose s k x a).txOut = s.txOut ∧
    (dispose s k x a).lanes = s.lanes ∧ (dispose s k x a).intake = s.intake ∧ (dispose s k x a).table = s.table ∧
    (dispose s k x a).profiles = s.profiles ∧ (dispose s k x a).time = s.time ∧
    (dispose s k x a).rounds = s.rounds ∧ (dispose s k x a).free = s.free ∧
    (dispose s k x a).emptyCutoffs = s.emptyCutoffs ∧ (dispose s k x a).ports = s.ports ∧
    (dispose s k x a).drawTimeout = s.drawTimeout ∧ (dispose s k x a).sweep = s.sweep ∧
    (dispose s k x a).link = s.link := by
  cases a <;> simp [dispose]

@[simp] theorem raiseRound_frame (s : State) (r : Fin 64) (w : RoundStatus) :
    (s.raiseRound r w).pending = s.pending ∧ (s.raiseRound r w).rstLow = s.rstLow ∧
    (s.raiseRound r w).rateHigh = s.rateHigh ∧ (s.raiseRound r w).txOut = s.txOut ∧
    (s.raiseRound r w).lanes = s.lanes ∧ (s.raiseRound r w).intake = s.intake ∧
    (s.raiseRound r w).table = s.table ∧ (s.raiseRound r w).profiles = s.profiles ∧
    (s.raiseRound r w).cond = s.cond ∧ (s.raiseRound r w).time = s.time ∧ (s.raiseRound r w).rounds = s.rounds ∧
    (s.raiseRound r w).free = s.free ∧ (s.raiseRound r w).emptyCutoffs = s.emptyCutoffs ∧
    (s.raiseRound r w).ports = s.ports ∧ (s.raiseRound r w).drawTimeout = s.drawTimeout ∧
    (s.raiseRound r w).sweep = s.sweep ∧ (s.raiseRound r w).link = s.link := by
  simp [State.raiseRound]

@[simp] theorem holdNow_frame (s : State) (c : Cause) :
    (holdNow s c).pending = s.pending ∧ (holdNow s c).rstLow = s.rstLow ∧ (holdNow s c).rateHigh = s.rateHigh ∧
    (holdNow s c).txOut = s.txOut ∧ (holdNow s c).lanes = s.lanes ∧ (holdNow s c).table = s.table ∧
    (holdNow s c).profiles = s.profiles ∧ (holdNow s c).cond = s.cond ∧ (holdNow s c).time = s.time ∧
    (holdNow s c).rounds = s.rounds ∧ (holdNow s c).free = s.free ∧ (holdNow s c).emptyCutoffs = s.emptyCutoffs ∧
    (holdNow s c).ports = s.ports ∧ (holdNow s c).drawTimeout = s.drawTimeout ∧ (holdNow s c).sweep = s.sweep ∧
    (holdNow s c).link = s.link := by
  simp [holdNow]

@[simp] theorem holdAtFrameEnd_frame (s : State) (k : Kind) :
    (holdAtFrameEnd s k).pending = s.pending ∧ (holdAtFrameEnd s k).rstLow = s.rstLow ∧
    (holdAtFrameEnd s k).rateHigh = s.rateHigh ∧ (holdAtFrameEnd s k).txOut = s.txOut ∧
    (holdAtFrameEnd s k).lanes = s.lanes ∧ (holdAtFrameEnd s k).table = s.table ∧
    (holdAtFrameEnd s k).profiles = s.profiles ∧ (holdAtFrameEnd s k).cond = s.cond ∧
    (holdAtFrameEnd s k).time = s.time ∧ (holdAtFrameEnd s k).rounds = s.rounds ∧
    (holdAtFrameEnd s k).free = s.free ∧ (holdAtFrameEnd s k).emptyCutoffs = s.emptyCutoffs ∧
    (holdAtFrameEnd s k).ports = s.ports ∧ (holdAtFrameEnd s k).drawTimeout = s.drawTimeout ∧
    (holdAtFrameEnd s k).sweep = s.sweep ∧ (holdAtFrameEnd s k).link = s.link ∧
    (holdAtFrameEnd s k).notices = s.notices := by
  simp [holdAtFrameEnd]

@[simp] theorem holdForT_frame (s : State) (k : Kind) :
    (holdForT s k).pending = s.pending ∧ (holdForT s k).rstLow = s.rstLow ∧ (holdForT s k).rateHigh = s.rateHigh ∧
    (holdForT s k).txOut = s.txOut ∧ (holdForT s k).lanes = s.lanes ∧ (holdForT s k).table = s.table ∧
    (holdForT s k).profiles = s.profiles ∧ (holdForT s k).cond = s.cond ∧ (holdForT s k).time = s.time ∧
    (holdForT s k).rounds = s.rounds ∧ (holdForT s k).free = s.free ∧
    (holdForT s k).emptyCutoffs = s.emptyCutoffs ∧ (holdForT s k).ports = s.ports ∧
    (holdForT s k).drawTimeout = s.drawTimeout ∧ (holdForT s k).sweep = s.sweep ∧ (holdForT s k).link = s.link := by
  unfold holdForT; split <;> [skip; split] <;> simp

@[simp] theorem raiseT_frame (s : State) (k : Kind) (x : Subject) :
    (raiseT s k x).pending = s.pending ∧ (raiseT s k x).rstLow = s.rstLow ∧ (raiseT s k x).rateHigh = s.rateHigh ∧
    (raiseT s k x).txOut = s.txOut ∧ (raiseT s k x).lanes = s.lanes ∧ (raiseT s k x).table = s.table ∧
    (raiseT s k x).profiles = s.profiles ∧ (raiseT s k x).time = s.time ∧ (raiseT s k x).rounds = s.rounds ∧
    (raiseT s k x).free = s.free ∧ (raiseT s k x).emptyCutoffs = s.emptyCutoffs ∧ (raiseT s k x).ports = s.ports ∧
    (raiseT s k x).drawTimeout = s.drawTimeout ∧ (raiseT s k x).sweep = s.sweep ∧ (raiseT s k x).link = s.link := by
  unfold raiseT; dsimp only; split <;> simp

@[simp] theorem disposeOfFrame_frame (acc : State × Bool) (c : Kind × Subject) :
    (disposeOfFrame acc c).1.pending = acc.1.pending ∧ (disposeOfFrame acc c).1.rstLow = acc.1.rstLow ∧
    (disposeOfFrame acc c).1.rateHigh = acc.1.rateHigh ∧ (disposeOfFrame acc c).1.txOut = acc.1.txOut ∧
    (disposeOfFrame acc c).1.lanes = acc.1.lanes ∧ (disposeOfFrame acc c).1.table = acc.1.table ∧
    (disposeOfFrame acc c).1.profiles = acc.1.profiles ∧ (disposeOfFrame acc c).1.time = acc.1.time ∧
    (disposeOfFrame acc c).1.rounds = acc.1.rounds ∧ (disposeOfFrame acc c).1.free = acc.1.free ∧
    (disposeOfFrame acc c).1.emptyCutoffs = acc.1.emptyCutoffs ∧ (disposeOfFrame acc c).1.ports = acc.1.ports ∧
    (disposeOfFrame acc c).1.drawTimeout = acc.1.drawTimeout ∧ (disposeOfFrame acc c).1.sweep = acc.1.sweep ∧
    (disposeOfFrame acc c).1.link = acc.1.link := by
  unfold disposeOfFrame; dsimp only; split <;> simp

@[simp] theorem disposeAll_frame (l : List (Kind × Subject)) (acc : State × Bool) :
    (l.foldl disposeOfFrame acc).1.pending = acc.1.pending ∧ (l.foldl disposeOfFrame acc).1.rstLow = acc.1.rstLow ∧
    (l.foldl disposeOfFrame acc).1.rateHigh = acc.1.rateHigh ∧ (l.foldl disposeOfFrame acc).1.txOut = acc.1.txOut ∧
    (l.foldl disposeOfFrame acc).1.lanes = acc.1.lanes ∧ (l.foldl disposeOfFrame acc).1.table = acc.1.table ∧
    (l.foldl disposeOfFrame acc).1.profiles = acc.1.profiles ∧ (l.foldl disposeOfFrame acc).1.time = acc.1.time ∧
    (l.foldl disposeOfFrame acc).1.rounds = acc.1.rounds ∧ (l.foldl disposeOfFrame acc).1.free = acc.1.free ∧
    (l.foldl disposeOfFrame acc).1.emptyCutoffs = acc.1.emptyCutoffs ∧
    (l.foldl disposeOfFrame acc).1.ports = acc.1.ports ∧
    (l.foldl disposeOfFrame acc).1.drawTimeout = acc.1.drawTimeout ∧
    (l.foldl disposeOfFrame acc).1.sweep = acc.1.sweep ∧ (l.foldl disposeOfFrame acc).1.link = acc.1.link := by
  induction l generalizing acc with
  | nil => simp
  | cons c l ih => simp [ih]

@[simp] theorem offerRelay_frame (s : State) (f : LaneFrame) :
    (offerRelay s f).pending = s.pending ∧ (offerRelay s f).rstLow = s.rstLow ∧
    (offerRelay s f).rateHigh = s.rateHigh ∧ (offerRelay s f).txOut = s.txOut ∧ (offerRelay s f).lanes = s.lanes ∧
    (offerRelay s f).intake = s.intake ∧ (offerRelay s f).table = s.table ∧
    (offerRelay s f).profiles = s.profiles ∧ (offerRelay s f).cond = s.cond ∧ (offerRelay s f).time = s.time ∧
    (offerRelay s f).rounds = s.rounds ∧ (offerRelay s f).free = s.free ∧
    (offerRelay s f).emptyCutoffs = s.emptyCutoffs ∧ (offerRelay s f).ports = s.ports ∧
    (offerRelay s f).drawTimeout = s.drawTimeout ∧ (offerRelay s f).sweep = s.sweep ∧
    (offerRelay s f).notices = s.notices := by
  unfold offerRelay; split <;> simp

@[simp] theorem disposeFrame_frame (s : State) (f : LaneFrame) (l : List (Kind × Subject)) :
    (disposeFrame s f l).pending = s.pending ∧ (disposeFrame s f l).rstLow = s.rstLow ∧
    (disposeFrame s f l).rateHigh = s.rateHigh ∧ (disposeFrame s f l).txOut = s.txOut ∧
    (disposeFrame s f l).lanes = s.lanes ∧ (disposeFrame s f l).table = s.table ∧
    (disposeFrame s f l).profiles = s.profiles ∧ (disposeFrame s f l).time = s.time ∧
    (disposeFrame s f l).rounds = s.rounds ∧ (disposeFrame s f l).free = s.free ∧
    (disposeFrame s f l).emptyCutoffs = s.emptyCutoffs ∧ (disposeFrame s f l).ports = s.ports ∧
    (disposeFrame s f l).drawTimeout = s.drawTimeout ∧ (disposeFrame s f l).sweep = s.sweep := by
  unfold disposeFrame; dsimp only; split <;> simp

@[simp] theorem answer_frame (s : State) (c : Byte) (t : Word16) (q : ResultCode) (d : List Byte) :
    (answer s c t q d).pending = s.pending ∧ (answer s c t q d).rstLow = s.rstLow ∧
    (answer s c t q d).rateHigh = s.rateHigh ∧ (answer s c t q d).txOut = s.txOut ∧
    (answer s c t q d).lanes = s.lanes ∧ (answer s c t q d).intake = s.intake ∧
    (answer s c t q d).table = s.table ∧ (answer s c t q d).profiles = s.profiles ∧
    (answer s c t q d).cond = s.cond ∧ (answer s c t q d).time = s.time ∧ (answer s c t q d).rounds = s.rounds ∧
    (answer s c t q d).free = s.free ∧ (answer s c t q d).emptyCutoffs = s.emptyCutoffs ∧
    (answer s c t q d).ports = s.ports ∧ (answer s c t q d).drawTimeout = s.drawTimeout ∧
    (answer s c t q d).sweep = s.sweep ∧ (answer s c t q d).notices = s.notices := by
  simp [answer]

@[simp] theorem reply_frame (s : State) (r : Request) (q : ResultCode) (d : List Byte) :
    (reply s r q d).pending = s.pending ∧ (reply s r q d).rstLow = s.rstLow ∧
    (reply s r q d).rateHigh = s.rateHigh ∧ (reply s r q d).txOut = s.txOut ∧ (reply s r q d).lanes = s.lanes ∧
    (reply s r q d).intake = s.intake ∧ (reply s r q d).table = s.table ∧ (reply s r q d).profiles = s.profiles ∧
    (reply s r q d).cond = s.cond ∧ (reply s r q d).time = s.time ∧ (reply s r q d).rounds = s.rounds ∧
    (reply s r q d).free = s.free ∧ (reply s r q d).emptyCutoffs = s.emptyCutoffs ∧
    (reply s r q d).ports = s.ports ∧ (reply s r q d).drawTimeout = s.drawTimeout ∧
    (reply s r q d).sweep = s.sweep ∧ (reply s r q d).notices = s.notices := by
  simp [reply]

@[simp] theorem leaveQueue_frame (s : State) :
    (leaveQueue s).pending = s.pending ∧ (leaveQueue s).rstLow = s.rstLow ∧ (leaveQueue s).rateHigh = s.rateHigh ∧
    (leaveQueue s).txOut = s.txOut ∧ (leaveQueue s).lanes = s.lanes ∧ (leaveQueue s).table = s.table ∧
    (leaveQueue s).profiles = s.profiles ∧ (leaveQueue s).cond = s.cond ∧ (leaveQueue s).time = s.time ∧
    (leaveQueue s).rounds = s.rounds ∧ (leaveQueue s).free = s.free ∧
    (leaveQueue s).emptyCutoffs = s.emptyCutoffs ∧ (leaveQueue s).ports = s.ports ∧
    (leaveQueue s).drawTimeout = s.drawTimeout ∧ (leaveQueue s).sweep = s.sweep ∧ (leaveQueue s).link = s.link ∧
    (leaveQueue s).notices = s.notices := by
  simp [leaveQueue]

@[simp] theorem settleHold_frame (s : State) (w : Option Kind) :
    (settleHold s w).pending = s.pending ∧ (settleHold s w).rstLow = s.rstLow ∧
    (settleHold s w).rateHigh = s.rateHigh ∧ (settleHold s w).txOut = s.txOut ∧ (settleHold s w).lanes = s.lanes ∧
    (settleHold s w).table = s.table ∧ (settleHold s w).profiles = s.profiles ∧ (settleHold s w).cond = s.cond ∧
    (settleHold s w).time = s.time ∧ (settleHold s w).rounds = s.rounds ∧ (settleHold s w).free = s.free ∧
    (settleHold s w).emptyCutoffs = s.emptyCutoffs ∧ (settleHold s w).ports = s.ports ∧
    (settleHold s w).drawTimeout = s.drawTimeout ∧ (settleHold s w).sweep = s.sweep ∧ (settleHold s w).link = s.link := by
  unfold settleHold; split <;> simp

@[simp] theorem answerWaiting_frame (s : State) (n : Fin 4) (o : Byte) :
    (answerWaiting s n o).pending = s.pending ∧ (answerWaiting s n o).rstLow = s.rstLow ∧
    (answerWaiting s n o).rateHigh = s.rateHigh ∧ (answerWaiting s n o).txOut = s.txOut ∧
    (answerWaiting s n o).lanes = s.lanes ∧ (answerWaiting s n o).intake = s.intake ∧
    (answerWaiting s n o).table = s.table ∧ (answerWaiting s n o).profiles = s.profiles ∧
    (answerWaiting s n o).cond = s.cond ∧ (answerWaiting s n o).time = s.time ∧
    (answerWaiting s n o).rounds = s.rounds ∧ (answerWaiting s n o).free = s.free ∧
    (answerWaiting s n o).emptyCutoffs = s.emptyCutoffs ∧ (answerWaiting s n o).ports = s.ports ∧
    (answerWaiting s n o).drawTimeout = s.drawTimeout ∧ (answerWaiting s n o).sweep = s.sweep ∧
    (answerWaiting s n o).notices = s.notices := by
  unfold answerWaiting; split <;> (try split) <;> simp

@[simp] theorem endFrame_frame (s : State) (n : Fin 4) (o : Byte) :
    (endFrame s n o).pending = s.pending ∧ (endFrame s n o).rstLow = s.rstLow ∧
    (endFrame s n o).rateHigh = s.rateHigh ∧ (endFrame s n o).txOut = s.txOut ∧ (endFrame s n o).lanes = s.lanes ∧
    (endFrame s n o).table = s.table ∧ (endFrame s n o).profiles = s.profiles ∧ (endFrame s n o).cond = s.cond ∧
    (endFrame s n o).time = s.time ∧ (endFrame s n o).rounds = s.rounds ∧ (endFrame s n o).free = s.free ∧
    (endFrame s n o).emptyCutoffs = s.emptyCutoffs ∧ (endFrame s n o).ports = s.ports ∧
    (endFrame s n o).drawTimeout = s.drawTimeout ∧ (endFrame s n o).sweep = s.sweep := by
  simp [endFrame]

@[simp] theorem holdThenStop_frame (s : State) (w : Option Kind) :
    (holdThenStop s w).pending = s.pending ∧ (holdThenStop s w).rstLow = s.rstLow ∧
    (holdThenStop s w).rateHigh = s.rateHigh ∧ (holdThenStop s w).txOut = s.txOut ∧
    (holdThenStop s w).lanes = s.lanes ∧ (holdThenStop s w).table = s.table ∧
    (holdThenStop s w).profiles = s.profiles ∧ (holdThenStop s w).cond = s.cond ∧
    (holdThenStop s w).time = s.time ∧ (holdThenStop s w).rounds = s.rounds ∧ (holdThenStop s w).free = s.free ∧
    (holdThenStop s w).emptyCutoffs = s.emptyCutoffs ∧ (holdThenStop s w).ports = s.ports ∧
    (holdThenStop s w).drawTimeout = s.drawTimeout ∧ (holdThenStop s w).sweep = s.sweep ∧
    (holdThenStop s w).link = s.link := by
  unfold holdThenStop; split <;> simp

@[simp] theorem endFrameThenStop_frame (s : State) (n : Fin 4) (o : Byte) :
    (endFrameThenStop s n o).pending = s.pending ∧ (endFrameThenStop s n o).rstLow = s.rstLow ∧
    (endFrameThenStop s n o).rateHigh = s.rateHigh ∧ (endFrameThenStop s n o).txOut = s.txOut ∧
    (endFrameThenStop s n o).lanes = s.lanes ∧ (endFrameThenStop s n o).table = s.table ∧
    (endFrameThenStop s n o).profiles = s.profiles ∧ (endFrameThenStop s n o).cond = s.cond ∧
    (endFrameThenStop s n o).time = s.time ∧ (endFrameThenStop s n o).rounds = s.rounds ∧
    (endFrameThenStop s n o).free = s.free ∧ (endFrameThenStop s n o).emptyCutoffs = s.emptyCutoffs ∧
    (endFrameThenStop s n o).ports = s.ports ∧ (endFrameThenStop s n o).drawTimeout = s.drawTimeout ∧
    (endFrameThenStop s n o).sweep = s.sweep := by
  simp [endFrameThenStop]

@[simp] theorem refuseFrame_frame (s : State) (f : LaneFrame) (k : Kind) (x : Subject) :
    (refuseFrame s f k x).pending = s.pending ∧ (refuseFrame s f k x).rstLow = s.rstLow ∧
    (refuseFrame s f k x).rateHigh = s.rateHigh ∧ (refuseFrame s f k x).txOut = s.txOut ∧
    (refuseFrame s f k x).lanes = s.lanes ∧ (refuseFrame s f k x).table = s.table ∧
    (refuseFrame s f k x).profiles = s.profiles ∧ (refuseFrame s f k x).time = s.time ∧
    (refuseFrame s f k x).rounds = s.rounds ∧ (refuseFrame s f k x).free = s.free ∧
    (refuseFrame s f k x).emptyCutoffs = s.emptyCutoffs ∧ (refuseFrame s f k x).ports = s.ports ∧
    (refuseFrame s f k x).drawTimeout = s.drawTimeout ∧ (refuseFrame s f k x).sweep = s.sweep := by
  simp [refuseFrame]

@[simp] theorem endSweep_frame (s : State) (w : EndReason) :
    (endSweep s w).pending = s.pending ∧ (endSweep s w).rstLow = s.rstLow ∧ (endSweep s w).rateHigh = s.rateHigh ∧
    (endSweep s w).txOut = s.txOut ∧ (endSweep s w).lanes = s.lanes ∧ (endSweep s w).intake = s.intake ∧
    (endSweep s w).table = s.table ∧ (endSweep s w).profiles = s.profiles ∧ (endSweep s w).cond = s.cond ∧
    (endSweep s w).time = s.time ∧ (endSweep s w).rounds = s.rounds ∧ (endSweep s w).free = s.free ∧
    (endSweep s w).emptyCutoffs = s.emptyCutoffs ∧ (endSweep s w).ports = s.ports ∧
    (endSweep s w).drawTimeout = s.drawTimeout ∧ (endSweep s w).link = s.link ∧ (endSweep s w).notices = s.notices := by
  unfold endSweep; split <;> simp

@[simp] theorem stop_frame (s : State) (i : Nat) :
    (stop s i).pending = s.pending ∧ (stop s i).rstLow = s.rstLow ∧ (stop s i).rateHigh = s.rateHigh ∧
    (stop s i).txOut = s.txOut ∧ (stop s i).lanes = s.lanes ∧ (stop s i).table = s.table ∧
    (stop s i).profiles = s.profiles ∧ (stop s i).time = s.time ∧ (stop s i).rounds = s.rounds ∧
    (stop s i).free = s.free ∧ (stop s i).emptyCutoffs = s.emptyCutoffs ∧ (stop s i).ports = s.ports ∧
    (stop s i).drawTimeout = s.drawTimeout ∧ (stop s i).link = s.link := by
  simp [stop]

@[simp] theorem detach_frame (s : State) (i : Nat) (m : Mark) :
    (detach s i m).pending = s.pending ∧ (detach s i m).rstLow = s.rstLow ∧ (detach s i m).rateHigh = s.rateHigh ∧
    (detach s i m).txOut = s.txOut ∧ (detach s i m).lanes = s.lanes ∧ (detach s i m).intake = s.intake ∧
    (detach s i m).table = s.table ∧ (detach s i m).profiles = s.profiles ∧ (detach s i m).cond = s.cond ∧
    (detach s i m).time = s.time ∧ (detach s i m).emptyCutoffs = s.emptyCutoffs ∧ (detach s i m).ports = s.ports ∧
    (detach s i m).drawTimeout = s.drawTimeout ∧ (detach s i m).sweep = s.sweep ∧ (detach s i m).link = s.link ∧
    (detach s i m).notices = s.notices := by
  unfold detach; split <;> (try split) <;> simp

@[simp] theorem storeError_frame (s : State) (i : Nat) :
    (storeError s i).pending = s.pending ∧ (storeError s i).rstLow = s.rstLow ∧
    (storeError s i).rateHigh = s.rateHigh ∧ (storeError s i).txOut = s.txOut ∧ (storeError s i).lanes = s.lanes ∧
    (storeError s i).profiles = s.profiles ∧ (storeError s i).time = s.time ∧
    (storeError s i).emptyCutoffs = s.emptyCutoffs ∧ (storeError s i).ports = s.ports ∧
    (storeError s i).drawTimeout = s.drawTimeout ∧ (storeError s i).link = s.link := by
  simp [storeError]

@[simp] theorem claimUnplaced_frame (s : State) (i : Nat) :
    (claimUnplaced s i).1.pending = s.pending ∧ (claimUnplaced s i).1.rstLow = s.rstLow ∧
    (claimUnplaced s i).1.rateHigh = s.rateHigh ∧ (claimUnplaced s i).1.txOut = s.txOut ∧
    (claimUnplaced s i).1.lanes = s.lanes ∧ (claimUnplaced s i).1.profiles = s.profiles ∧
    (claimUnplaced s i).1.time = s.time ∧ (claimUnplaced s i).1.emptyCutoffs = s.emptyCutoffs ∧
    (claimUnplaced s i).1.ports = s.ports ∧ (claimUnplaced s i).1.drawTimeout = s.drawTimeout ∧
    (claimUnplaced s i).1.link = s.link := by
  unfold claimUnplaced; split <;> (try split) <;> simp

@[simp] theorem addEntry_frame (s : State) (q : Fin 64) (i : Nat) (x : BinRecord) (c : EntryClass) :
    (addEntry s q i x c).1.pending = s.pending ∧ (addEntry s q i x c).1.rstLow = s.rstLow ∧
    (addEntry s q i x c).1.rateHigh = s.rateHigh ∧ (addEntry s q i x c).1.txOut = s.txOut ∧
    (addEntry s q i x c).1.lanes = s.lanes ∧ (addEntry s q i x c).1.profiles = s.profiles ∧
    (addEntry s q i x c).1.time = s.time ∧ (addEntry s q i x c).1.emptyCutoffs = s.emptyCutoffs ∧
    (addEntry s q i x c).1.ports = s.ports ∧ (addEntry s q i x c).1.drawTimeout = s.drawTimeout ∧
    (addEntry s q i x c).1.link = s.link := by
  unfold addEntry; dsimp only; split <;> split <;> (try split) <;> simp

@[simp] theorem place_frame (s : State) (i : Nat) (x : BinRecord) (c : EntryClass) :
    (place s i x c).1.pending = s.pending ∧ (place s i x c).1.rstLow = s.rstLow ∧
    (place s i x c).1.rateHigh = s.rateHigh ∧ (place s i x c).1.txOut = s.txOut ∧
    (place s i x c).1.lanes = s.lanes ∧ (place s i x c).1.profiles = s.profiles ∧ (place s i x c).1.time = s.time ∧
    (place s i x c).1.emptyCutoffs = s.emptyCutoffs ∧ (place s i x c).1.ports = s.ports ∧
    (place s i x c).1.drawTimeout = s.drawTimeout ∧ (place s i x c).1.link = s.link := by
  unfold place; repeat' split
  all_goals simp

@[simp] theorem openSide_frame (s : State) (p : Fin 4) (r : Fin 64) :
    (openSide s p r).pending = s.pending ∧ (openSide s p r).rstLow = s.rstLow ∧
    (openSide s p r).rateHigh = s.rateHigh ∧ (openSide s p r).txOut = s.txOut ∧ (openSide s p r).lanes = s.lanes ∧
    (openSide s p r).intake = s.intake ∧ (openSide s p r).table = s.table ∧
    (openSide s p r).profiles = s.profiles ∧ (openSide s p r).cond = s.cond ∧ (openSide s p r).time = s.time ∧
    (openSide s p r).free = s.free ∧ (openSide s p r).emptyCutoffs = s.emptyCutoffs ∧
    (openSide s p r).drawTimeout = s.drawTimeout ∧ (openSide s p r).sweep = s.sweep ∧ (openSide s p r).link = s.link := by
  unfold openSide; dsimp only; split <;> simp

@[simp] theorem sealRound_frame (s : State) (r : Fin 64) :
    (sealRound s r).1.pending = s.pending ∧ (sealRound s r).1.rstLow = s.rstLow ∧
    (sealRound s r).1.rateHigh = s.rateHigh ∧ (sealRound s r).1.txOut = s.txOut ∧
    (sealRound s r).1.lanes = s.lanes ∧ (sealRound s r).1.intake = s.intake ∧ (sealRound s r).1.table = s.table ∧
    (sealRound s r).1.profiles = s.profiles ∧ (sealRound s r).1.cond = s.cond ∧ (sealRound s r).1.time = s.time ∧
    (sealRound s r).1.free = s.free ∧ (sealRound s r).1.emptyCutoffs = s.emptyCutoffs ∧
    (sealRound s r).1.drawTimeout = s.drawTimeout ∧ (sealRound s r).1.sweep = s.sweep ∧
    (sealRound s r).1.link = s.link := by
  unfold sealRound; dsimp only; split <;> simp

@[simp] theorem cutoffFree_frame (s : State) (r : Fin 64) :
    (cutoffFree s r).1.pending = s.pending ∧ (cutoffFree s r).1.rstLow = s.rstLow ∧
    (cutoffFree s r).1.rateHigh = s.rateHigh ∧ (cutoffFree s r).1.txOut = s.txOut ∧
    (cutoffFree s r).1.lanes = s.lanes ∧ (cutoffFree s r).1.intake = s.intake ∧
    (cutoffFree s r).1.table = s.table ∧ (cutoffFree s r).1.profiles = s.profiles ∧
    (cutoffFree s r).1.cond = s.cond ∧ (cutoffFree s r).1.time = s.time ∧ (cutoffFree s r).1.free = s.free ∧
    (cutoffFree s r).1.drawTimeout = s.drawTimeout ∧ (cutoffFree s r).1.sweep = s.sweep ∧
    (cutoffFree s r).1.link = s.link := by
  unfold cutoffFree; split <;> simp

@[simp] theorem cutoffHeld_frame (s : State) (r : Fin 64) :
    (cutoffHeld s r).1.pending = s.pending ∧ (cutoffHeld s r).1.rstLow = s.rstLow ∧
    (cutoffHeld s r).1.rateHigh = s.rateHigh ∧ (cutoffHeld s r).1.txOut = s.txOut ∧
    (cutoffHeld s r).1.lanes = s.lanes ∧ (cutoffHeld s r).1.table = s.table ∧
    (cutoffHeld s r).1.profiles = s.profiles ∧ (cutoffHeld s r).1.time = s.time ∧
    (cutoffHeld s r).1.free = s.free ∧ (cutoffHeld s r).1.emptyCutoffs = s.emptyCutoffs ∧
    (cutoffHeld s r).1.ports = s.ports ∧ (cutoffHeld s r).1.drawTimeout = s.drawTimeout ∧
    (cutoffHeld s r).1.sweep = s.sweep ∧ (cutoffHeld s r).1.link = s.link := by
  simp [cutoffHeld]

@[simp] theorem cutoff_frame (s : State) (r : Fin 64) :
    (cutoff s r).1.pending = s.pending ∧ (cutoff s r).1.rstLow = s.rstLow ∧ (cutoff s r).1.rateHigh = s.rateHigh ∧
    (cutoff s r).1.txOut = s.txOut ∧ (cutoff s r).1.lanes = s.lanes ∧ (cutoff s r).1.table = s.table ∧
    (cutoff s r).1.profiles = s.profiles ∧ (cutoff s r).1.time = s.time ∧ (cutoff s r).1.free = s.free ∧
    (cutoff s r).1.drawTimeout = s.drawTimeout ∧ (cutoff s r).1.sweep = s.sweep ∧ (cutoff s r).1.link = s.link := by
  unfold cutoff; split <;> simp

@[simp] theorem takeCutoff_frame (s : State) (r : Fin 64) :
    (takeCutoff s r).pending = s.pending ∧ (takeCutoff s r).rstLow = s.rstLow ∧
    (takeCutoff s r).rateHigh = s.rateHigh ∧ (takeCutoff s r).txOut = s.txOut ∧ (takeCutoff s r).lanes = s.lanes ∧
    (takeCutoff s r).table = s.table ∧ (takeCutoff s r).profiles = s.profiles ∧ (takeCutoff s r).free = s.free ∧
    (takeCutoff s r).drawTimeout = s.drawTimeout ∧ (takeCutoff s r).sweep = s.sweep ∧ (takeCutoff s r).link = s.link := by
  unfold takeCutoff; split <;> simp

@[simp] theorem carryOne_frame (r : Fin 64) (acc : State × Figures) (e : Entry) :
    (carryOne r acc e).1.pending = acc.1.pending ∧ (carryOne r acc e).1.rstLow = acc.1.rstLow ∧
    (carryOne r acc e).1.rateHigh = acc.1.rateHigh ∧ (carryOne r acc e).1.txOut = acc.1.txOut ∧
    (carryOne r acc e).1.lanes = acc.1.lanes ∧ (carryOne r acc e).1.profiles = acc.1.profiles ∧
    (carryOne r acc e).1.time = acc.1.time ∧ (carryOne r acc e).1.emptyCutoffs = acc.1.emptyCutoffs ∧
    (carryOne r acc e).1.ports = acc.1.ports ∧ (carryOne r acc e).1.drawTimeout = acc.1.drawTimeout ∧
    (carryOne r acc e).1.link = acc.1.link := by
  unfold carryOne; dsimp only; repeat' split
  all_goals simp

@[simp] theorem carryAll_frame (r : Fin 64) (l : List Entry) (acc : State × Figures) :
    (l.foldl (carryOne r) acc).1.pending = acc.1.pending ∧ (l.foldl (carryOne r) acc).1.rstLow = acc.1.rstLow ∧
    (l.foldl (carryOne r) acc).1.rateHigh = acc.1.rateHigh ∧ (l.foldl (carryOne r) acc).1.txOut = acc.1.txOut ∧
    (l.foldl (carryOne r) acc).1.lanes = acc.1.lanes ∧ (l.foldl (carryOne r) acc).1.profiles = acc.1.profiles ∧
    (l.foldl (carryOne r) acc).1.time = acc.1.time ∧
    (l.foldl (carryOne r) acc).1.emptyCutoffs = acc.1.emptyCutoffs ∧
    (l.foldl (carryOne r) acc).1.ports = acc.1.ports ∧
    (l.foldl (carryOne r) acc).1.drawTimeout = acc.1.drawTimeout ∧ (l.foldl (carryOne r) acc).1.link = acc.1.link := by
  induction l generalizing acc with
  | nil => simp
  | cons e l ih => simp [ih]

@[simp] theorem handBack_frame (s : State) (p : Fin 4) (r : Fin 64) :
    (handBack s p r).1.pending = s.pending ∧ (handBack s p r).1.rstLow = s.rstLow ∧
    (handBack s p r).1.rateHigh = s.rateHigh ∧ (handBack s p r).1.txOut = s.txOut ∧
    (handBack s p r).1.lanes = s.lanes ∧ (handBack s p r).1.profiles = s.profiles ∧
    (handBack s p r).1.time = s.time ∧ (handBack s p r).1.emptyCutoffs = s.emptyCutoffs ∧
    (handBack s p r).1.drawTimeout = s.drawTimeout ∧ (handBack s p r).1.link = s.link := by
  simp [handBack]

@[simp] theorem completeCutoff_frame (s : State) (r : Fin 64) :
    (completeCutoff s r).1.pending = s.pending ∧ (completeCutoff s r).1.rstLow = s.rstLow ∧
    (completeCutoff s r).1.rateHigh = s.rateHigh ∧ (completeCutoff s r).1.txOut = s.txOut ∧
    (completeCutoff s r).1.lanes = s.lanes ∧ (completeCutoff s r).1.intake = s.intake ∧
    (completeCutoff s r).1.table = s.table ∧ (completeCutoff s r).1.profiles = s.profiles ∧
    (completeCutoff s r).1.cond = s.cond ∧ (completeCutoff s r).1.time = s.time ∧
    (completeCutoff s r).1.free = s.free ∧ (completeCutoff s r).1.drawTimeout = s.drawTimeout ∧
    (completeCutoff s r).1.sweep = s.sweep ∧ (completeCutoff s r).1.link = s.link := by
  unfold completeCutoff; split <;> simp

@[simp] theorem releaseSide_frame (s : State) (p : Fin 4) (r : Fin 64) :
    (releaseSide s p r).1.pending = s.pending ∧ (releaseSide s p r).1.rstLow = s.rstLow ∧
    (releaseSide s p r).1.rateHigh = s.rateHigh ∧ (releaseSide s p r).1.txOut = s.txOut ∧
    (releaseSide s p r).1.lanes = s.lanes ∧ (releaseSide s p r).1.profiles = s.profiles ∧
    (releaseSide s p r).1.time = s.time ∧ (releaseSide s p r).1.drawTimeout = s.drawTimeout ∧
    (releaseSide s p r).1.link = s.link := by
  simp [releaseSide]

@[simp] theorem looseEnds_frame (s : State) (p : Fin 4) (r : Fin 64) :
    (looseEnds s p r).pending = s.pending ∧ (looseEnds s p r).rstLow = s.rstLow ∧
    (looseEnds s p r).rateHigh = s.rateHigh ∧ (looseEnds s p r).txOut = s.txOut ∧
    (looseEnds s p r).lanes = s.lanes ∧ (looseEnds s p r).intake = s.intake ∧ (looseEnds s p r).table = s.table ∧
    (looseEnds s p r).profiles = s.profiles ∧ (looseEnds s p r).cond = s.cond ∧ (looseEnds s p r).time = s.time ∧
    (looseEnds s p r).free = s.free ∧ (looseEnds s p r).emptyCutoffs = s.emptyCutoffs ∧
    (looseEnds s p r).drawTimeout = s.drawTimeout ∧ (looseEnds s p r).sweep = s.sweep ∧
    (looseEnds s p r).link = s.link ∧ (looseEnds s p r).notices = s.notices := by
  simp [looseEnds]

@[simp] theorem returnSide_frame (s : State) (p : Fin 4) (r : Fin 64) :
    (returnSide s p r).1.pending = s.pending ∧ (returnSide s p r).1.rstLow = s.rstLow ∧
    (returnSide s p r).1.rateHigh = s.rateHigh ∧ (returnSide s p r).1.txOut = s.txOut ∧
    (returnSide s p r).1.lanes = s.lanes ∧ (returnSide s p r).1.intake = s.intake ∧
    (returnSide s p r).1.table = s.table ∧ (returnSide s p r).1.profiles = s.profiles ∧
    (returnSide s p r).1.cond = s.cond ∧ (returnSide s p r).1.time = s.time ∧
    (returnSide s p r).1.emptyCutoffs = s.emptyCutoffs ∧ (returnSide s p r).1.drawTimeout = s.drawTimeout ∧
    (returnSide s p r).1.sweep = s.sweep ∧ (returnSide s p r).1.link = s.link ∧
    (returnSide s p r).1.notices = s.notices := by
  simp [returnSide]

end Sys2Proof.Machine
end

