-- ==== Sys2Proof/Laws/CommandFrames.lean ====
section
/-! SUPPORT. What the work of each command leaves unchanged: one lemma per function, naming every field of the state
that it cannot touch. -/

namespace Sys2Proof.Machine

@[simp] theorem offerFrame_frame (s : State) (f : LaneFrame) :
    (offerFrame s f).pending = s.pending ∧ (offerFrame s f).rstLow = s.rstLow ∧
    (offerFrame s f).rateHigh = s.rateHigh ∧ (offerFrame s f).txOut = s.txOut ∧ (offerFrame s f).table = s.table ∧
    (offerFrame s f).profiles = s.profiles ∧ (offerFrame s f).time = s.time ∧ (offerFrame s f).rounds = s.rounds ∧
    (offerFrame s f).free = s.free ∧ (offerFrame s f).emptyCutoffs = s.emptyCutoffs ∧
    (offerFrame s f).ports = s.ports ∧ (offerFrame s f).drawTimeout = s.drawTimeout ∧
    (offerFrame s f).sweep = s.sweep ∧ (offerFrame s f).link = s.link := by
  unfold offerFrame; split <;> simp

@[simp] theorem endLaneFrame_frame (n : Fin 4) (b : List Byte) (s : State) :
    (endLaneFrame n b s).pending = s.pending ∧ (endLaneFrame n b s).rstLow = s.rstLow ∧
    (endLaneFrame n b s).rateHigh = s.rateHigh ∧ (endLaneFrame n b s).txOut = s.txOut ∧
    (endLaneFrame n b s).table = s.table ∧ (endLaneFrame n b s).profiles = s.profiles ∧
    (endLaneFrame n b s).time = s.time ∧ (endLaneFrame n b s).rounds = s.rounds ∧
    (endLaneFrame n b s).free = s.free ∧ (endLaneFrame n b s).emptyCutoffs = s.emptyCutoffs ∧
    (endLaneFrame n b s).ports = s.ports ∧ (endLaneFrame n b s).drawTimeout = s.drawTimeout ∧
    (endLaneFrame n b s).sweep = s.sweep ∧ (endLaneFrame n b s).link = s.link := by
  unfold endLaneFrame; dsimp only; repeat' split
  all_goals simp

@[simp] theorem lookupClaim_frame (s : State) (f : LaneFrame) (x : SensorFrame) :
    (lookupClaim s f x).pending = s.pending ∧ (lookupClaim s f x).rstLow = s.rstLow ∧
    (lookupClaim s f x).rateHigh = s.rateHigh ∧ (lookupClaim s f x).txOut = s.txOut ∧
    (lookupClaim s f x).lanes = s.lanes ∧ (lookupClaim s f x).profiles = s.profiles ∧
    (lookupClaim s f x).time = s.time ∧ (lookupClaim s f x).emptyCutoffs = s.emptyCutoffs ∧
    (lookupClaim s f x).ports = s.ports ∧ (lookupClaim s f x).drawTimeout = s.drawTimeout := by
  unfold lookupClaim; dsimp only; repeat' split
  all_goals simp

@[simp] theorem takeFrame_frame (s : State) (f : LaneFrame) :
    (takeFrame s f).pending = s.pending ∧ (takeFrame s f).rstLow = s.rstLow ∧
    (takeFrame s f).rateHigh = s.rateHigh ∧ (takeFrame s f).txOut = s.txOut ∧ (takeFrame s f).lanes = s.lanes ∧
    (takeFrame s f).profiles = s.profiles ∧ (takeFrame s f).time = s.time ∧
    (takeFrame s f).emptyCutoffs = s.emptyCutoffs ∧ (takeFrame s f).ports = s.ports ∧
    (takeFrame s f).drawTimeout = s.drawTimeout := by
  unfold takeFrame; dsimp only; repeat' split
  all_goals simp

@[simp] theorem takeHead_frame (s : State) :
    (takeHead s).pending = s.pending ∧ (takeHead s).rstLow = s.rstLow ∧ (takeHead s).rateHigh = s.rateHigh ∧
    (takeHead s).txOut = s.txOut ∧ (takeHead s).lanes = s.lanes ∧ (takeHead s).profiles = s.profiles ∧
    (takeHead s).time = s.time ∧ (takeHead s).emptyCutoffs = s.emptyCutoffs ∧ (takeHead s).ports = s.ports ∧
    (takeHead s).drawTimeout = s.drawTimeout := by
  unfold takeHead; repeat' split
  all_goals simp

@[simp] theorem makeSheetRequest_frame (s : State) (i : Nat) (x : BinRecord) (q : SheetRequest) :
    (makeSheetRequest s i x q).1.pending = s.pending ∧ (makeSheetRequest s i x q).1.rstLow = s.rstLow ∧
    (makeSheetRequest s i x q).1.rateHigh = s.rateHigh ∧ (makeSheetRequest s i x q).1.txOut = s.txOut ∧
    (makeSheetRequest s i x q).1.lanes = s.lanes ∧ (makeSheetRequest s i x q).1.profiles = s.profiles ∧
    (makeSheetRequest s i x q).1.time = s.time ∧ (makeSheetRequest s i x q).1.emptyCutoffs = s.emptyCutoffs ∧
    (makeSheetRequest s i x q).1.ports = s.ports ∧ (makeSheetRequest s i x q).1.drawTimeout = s.drawTimeout ∧
    (makeSheetRequest s i x q).1.link = s.link := by
  cases q <;> simp [makeSheetRequest]

@[simp] theorem tickAll_frame (l : List (Nat × Word16)) (s : State) :
    (tickAll l s).pending = s.pending ∧ (tickAll l s).rstLow = s.rstLow ∧ (tickAll l s).rateHigh = s.rateHigh ∧
    (tickAll l s).txOut = s.txOut ∧ (tickAll l s).lanes = s.lanes ∧ (tickAll l s).profiles = s.profiles ∧
    (tickAll l s).cond = s.cond ∧ (tickAll l s).rounds = s.rounds ∧ (tickAll l s).free = s.free ∧
    (tickAll l s).emptyCutoffs = s.emptyCutoffs ∧ (tickAll l s).drawTimeout = s.drawTimeout ∧
    (tickAll l s).sweep = s.sweep ∧ (tickAll l s).link = s.link ∧ (tickAll l s).notices = s.notices := by
  simp [tickAll]

@[simp] theorem compareMinute_frame (s : State) :
    (compareMinute s).pending = s.pending ∧ (compareMinute s).rstLow = s.rstLow ∧
    (compareMinute s).rateHigh = s.rateHigh ∧ (compareMinute s).txOut = s.txOut ∧
    (compareMinute s).lanes = s.lanes ∧ (compareMinute s).intake = s.intake ∧ (compareMinute s).table = s.table ∧
    (compareMinute s).profiles = s.profiles ∧ (compareMinute s).cond = s.cond ∧
    (compareMinute s).rounds = s.rounds ∧ (compareMinute s).free = s.free ∧
    (compareMinute s).emptyCutoffs = s.emptyCutoffs ∧ (compareMinute s).ports = s.ports ∧
    (compareMinute s).drawTimeout = s.drawTimeout ∧ (compareMinute s).sweep = s.sweep ∧
    (compareMinute s).link = s.link ∧ (compareMinute s).notices = s.notices := by
  unfold compareMinute; split <;> simp

@[simp] theorem startSweep_frame (s : State) :
    (startSweep s).pending = s.pending ∧ (startSweep s).rstLow = s.rstLow ∧ (startSweep s).rateHigh = s.rateHigh ∧
    (startSweep s).txOut = s.txOut ∧ (startSweep s).lanes = s.lanes ∧ (startSweep s).intake = s.intake ∧
    (startSweep s).table = s.table ∧ (startSweep s).profiles = s.profiles ∧ (startSweep s).cond = s.cond ∧
    (startSweep s).time = s.time ∧ (startSweep s).rounds = s.rounds ∧ (startSweep s).free = s.free ∧
    (startSweep s).emptyCutoffs = s.emptyCutoffs ∧ (startSweep s).ports = s.ports ∧
    (startSweep s).drawTimeout = s.drawTimeout ∧ (startSweep s).link = s.link ∧ (startSweep s).notices = s.notices := by
  simp [startSweep]

@[simp] theorem takeTrigger_frame (s : State) :
    (takeTrigger s).pending = s.pending ∧ (takeTrigger s).rstLow = s.rstLow ∧
    (takeTrigger s).rateHigh = s.rateHigh ∧ (takeTrigger s).txOut = s.txOut ∧ (takeTrigger s).lanes = s.lanes ∧
    (takeTrigger s).intake = s.intake ∧ (takeTrigger s).table = s.table ∧ (takeTrigger s).profiles = s.profiles ∧
    (takeTrigger s).cond = s.cond ∧ (takeTrigger s).rounds = s.rounds ∧ (takeTrigger s).free = s.free ∧
    (takeTrigger s).emptyCutoffs = s.emptyCutoffs ∧ (takeTrigger s).ports = s.ports ∧
    (takeTrigger s).drawTimeout = s.drawTimeout ∧ (takeTrigger s).link = s.link ∧
    (takeTrigger s).notices = s.notices := by
  unfold takeTrigger; dsimp only; repeat' split
  all_goals simp

@[simp] theorem silenceBin_frame (s : State) (i : Nat) (x : BinRecord) :
    (silenceBin s i x).pending = s.pending ∧ (silenceBin s i x).rstLow = s.rstLow ∧
    (silenceBin s i x).rateHigh = s.rateHigh ∧ (silenceBin s i x).txOut = s.txOut ∧
    (silenceBin s i x).lanes = s.lanes ∧ (silenceBin s i x).profiles = s.profiles ∧
    (silenceBin s i x).time = s.time ∧ (silenceBin s i x).rounds = s.rounds ∧ (silenceBin s i x).free = s.free ∧
    (silenceBin s i x).emptyCutoffs = s.emptyCutoffs ∧ (silenceBin s i x).ports = s.ports ∧
    (silenceBin s i x).drawTimeout = s.drawTimeout ∧ (silenceBin s i x).link = s.link := by
  simp [silenceBin]

@[simp] theorem afterPlace_frame (s : State) (b : Word32) (o : PlaceOutcome) :
    (afterPlace s b o).pending = s.pending ∧ (afterPlace s b o).rstLow = s.rstLow ∧
    (afterPlace s b o).rateHigh = s.rateHigh ∧ (afterPlace s b o).txOut = s.txOut ∧
    (afterPlace s b o).lanes = s.lanes ∧ (afterPlace s b o).table = s.table ∧
    (afterPlace s b o).profiles = s.profiles ∧ (afterPlace s b o).time = s.time ∧
    (afterPlace s b o).rounds = s.rounds ∧ (afterPlace s b o).free = s.free ∧
    (afterPlace s b o).emptyCutoffs = s.emptyCutoffs ∧ (afterPlace s b o).ports = s.ports ∧
    (afterPlace s b o).drawTimeout = s.drawTimeout ∧ (afterPlace s b o).link = s.link := by
  cases o <;> simp [afterPlace, countPlaced]

@[simp] theorem makeVisitRequest_frame (s : State) (i : Nat) (x : BinRecord) (q : VisitRequest) :
    (makeVisitRequest s i x q).pending = s.pending ∧ (makeVisitRequest s i x q).rstLow = s.rstLow ∧
    (makeVisitRequest s i x q).rateHigh = s.rateHigh ∧ (makeVisitRequest s i x q).txOut = s.txOut ∧
    (makeVisitRequest s i x q).lanes = s.lanes ∧ (makeVisitRequest s i x q).profiles = s.profiles ∧
    (makeVisitRequest s i x q).time = s.time ∧ (makeVisitRequest s i x q).emptyCutoffs = s.emptyCutoffs ∧
    (makeVisitRequest s i x q).ports = s.ports ∧ (makeVisitRequest s i x q).drawTimeout = s.drawTimeout ∧
    (makeVisitRequest s i x q).link = s.link := by
  cases q <;> simp [makeVisitRequest]

@[simp] theorem visitRecord_frame (s : State) (i : Nat) (x : BinRecord) :
    (visitRecord s i x).pending = s.pending ∧ (visitRecord s i x).rstLow = s.rstLow ∧
    (visitRecord s i x).rateHigh = s.rateHigh ∧ (visitRecord s i x).txOut = s.txOut ∧
    (visitRecord s i x).lanes = s.lanes ∧ (visitRecord s i x).profiles = s.profiles ∧
    (visitRecord s i x).time = s.time ∧ (visitRecord s i x).emptyCutoffs = s.emptyCutoffs ∧
    (visitRecord s i x).ports = s.ports ∧ (visitRecord s i x).drawTimeout = s.drawTimeout ∧
    (visitRecord s i x).link = s.link := by
  unfold visitRecord; dsimp only; repeat' split
  all_goals simp

@[simp] theorem visitSlot_frame (s : State) (i : Nat) :
    (visitSlot s i).pending = s.pending ∧ (visitSlot s i).rstLow = s.rstLow ∧
    (visitSlot s i).rateHigh = s.rateHigh ∧ (visitSlot s i).txOut = s.txOut ∧ (visitSlot s i).lanes = s.lanes ∧
    (visitSlot s i).profiles = s.profiles ∧ (visitSlot s i).time = s.time ∧
    (visitSlot s i).emptyCutoffs = s.emptyCutoffs ∧ (visitSlot s i).ports = s.ports ∧
    (visitSlot s i).drawTimeout = s.drawTimeout ∧ (visitSlot s i).link = s.link := by
  unfold visitSlot; dsimp only; repeat' split
  all_goals simp

@[simp] theorem finishSweep_frame (s : State) :
    (finishSweep s).pending = s.pending ∧ (finishSweep s).rstLow = s.rstLow ∧
    (finishSweep s).rateHigh = s.rateHigh ∧ (finishSweep s).txOut = s.txOut ∧ (finishSweep s).lanes = s.lanes ∧
    (finishSweep s).intake = s.intake ∧ (finishSweep s).table = s.table ∧ (finishSweep s).profiles = s.profiles ∧
    (finishSweep s).cond = s.cond ∧ (finishSweep s).time = s.time ∧ (finishSweep s).rounds = s.rounds ∧
    (finishSweep s).free = s.free ∧ (finishSweep s).emptyCutoffs = s.emptyCutoffs ∧
    (finishSweep s).ports = s.ports ∧ (finishSweep s).drawTimeout = s.drawTimeout ∧ (finishSweep s).link = s.link := by
  simp [finishSweep]

@[simp] theorem endVisit_frame (s : State) (i : Nat) :
    (endVisit s i).pending = s.pending ∧ (endVisit s i).rstLow = s.rstLow ∧ (endVisit s i).rateHigh = s.rateHigh ∧
    (endVisit s i).txOut = s.txOut ∧ (endVisit s i).lanes = s.lanes ∧ (endVisit s i).intake = s.intake ∧
    (endVisit s i).table = s.table ∧ (endVisit s i).profiles = s.profiles ∧ (endVisit s i).cond = s.cond ∧
    (endVisit s i).time = s.time ∧ (endVisit s i).rounds = s.rounds ∧ (endVisit s i).free = s.free ∧
    (endVisit s i).emptyCutoffs = s.emptyCutoffs ∧ (endVisit s i).ports = s.ports ∧
    (endVisit s i).drawTimeout = s.drawTimeout ∧ (endVisit s i).link = s.link := by
  unfold endVisit; dsimp only; repeat' split
  all_goals simp

@[simp] theorem sweepVisit_frame (s : State) :
    (sweepVisit s).pending = s.pending ∧ (sweepVisit s).rstLow = s.rstLow ∧ (sweepVisit s).rateHigh = s.rateHigh ∧
    (sweepVisit s).txOut = s.txOut ∧ (sweepVisit s).lanes = s.lanes ∧ (sweepVisit s).profiles = s.profiles ∧
    (sweepVisit s).time = s.time ∧ (sweepVisit s).emptyCutoffs = s.emptyCutoffs ∧ (sweepVisit s).ports = s.ports ∧
    (sweepVisit s).drawTimeout = s.drawTimeout ∧ (sweepVisit s).link = s.link := by
  unfold sweepVisit; split <;> simp

@[simp] theorem countBadFrame_frame (s : State) :
    (countBadFrame s).pending = s.pending ∧ (countBadFrame s).rstLow = s.rstLow ∧
    (countBadFrame s).rateHigh = s.rateHigh ∧ (countBadFrame s).txOut = s.txOut ∧
    (countBadFrame s).lanes = s.lanes ∧ (countBadFrame s).intake = s.intake ∧ (countBadFrame s).table = s.table ∧
    (countBadFrame s).profiles = s.profiles ∧ (countBadFrame s).cond = s.cond ∧ (countBadFrame s).time = s.time ∧
    (countBadFrame s).rounds = s.rounds ∧ (countBadFrame s).free = s.free ∧
    (countBadFrame s).emptyCutoffs = s.emptyCutoffs ∧ (countBadFrame s).ports = s.ports ∧
    (countBadFrame s).drawTimeout = s.drawTimeout ∧ (countBadFrame s).sweep = s.sweep ∧
    (countBadFrame s).notices = s.notices := by
  simp [countBadFrame]

@[simp] theorem discardFrame_frame (s : State) :
    (discardFrame s).pending = s.pending ∧ (discardFrame s).rstLow = s.rstLow ∧
    (discardFrame s).rateHigh = s.rateHigh ∧ (discardFrame s).txOut = s.txOut ∧ (discardFrame s).lanes = s.lanes ∧
    (discardFrame s).intake = s.intake ∧ (discardFrame s).table = s.table ∧
    (discardFrame s).profiles = s.profiles ∧ (discardFrame s).cond = s.cond ∧ (discardFrame s).time = s.time ∧
    (discardFrame s).rounds = s.rounds ∧ (discardFrame s).free = s.free ∧
    (discardFrame s).emptyCutoffs = s.emptyCutoffs ∧ (discardFrame s).ports = s.ports ∧
    (discardFrame s).drawTimeout = s.drawTimeout ∧ (discardFrame s).sweep = s.sweep ∧
    (discardFrame s).notices = s.notices := by
  simp [discardFrame]

@[simp] theorem offerRequest_frame (s : State) (r : Request) :
    (offerRequest s r).pending = s.pending ∧ (offerRequest s r).rstLow = s.rstLow ∧
    (offerRequest s r).rateHigh = s.rateHigh ∧ (offerRequest s r).txOut = s.txOut ∧
    (offerRequest s r).lanes = s.lanes ∧ (offerRequest s r).intake = s.intake ∧
    (offerRequest s r).table = s.table ∧ (offerRequest s r).profiles = s.profiles ∧
    (offerRequest s r).cond = s.cond ∧ (offerRequest s r).time = s.time ∧ (offerRequest s r).rounds = s.rounds ∧
    (offerRequest s r).free = s.free ∧ (offerRequest s r).emptyCutoffs = s.emptyCutoffs ∧
    (offerRequest s r).ports = s.ports ∧ (offerRequest s r).drawTimeout = s.drawTimeout ∧
    (offerRequest s r).sweep = s.sweep ∧ (offerRequest s r).notices = s.notices := by
  unfold offerRequest; split <;> simp

@[simp] theorem receiveFrame_frame (b : List Byte) (c : Option Word16) (s : State) :
    (receiveFrame b c s).pending = s.pending ∧ (receiveFrame b c s).rstLow = s.rstLow ∧
    (receiveFrame b c s).rateHigh = s.rateHigh ∧ (receiveFrame b c s).txOut = s.txOut ∧
    (receiveFrame b c s).lanes = s.lanes ∧ (receiveFrame b c s).intake = s.intake ∧
    (receiveFrame b c s).table = s.table ∧ (receiveFrame b c s).profiles = s.profiles ∧
    (receiveFrame b c s).cond = s.cond ∧ (receiveFrame b c s).time = s.time ∧
    (receiveFrame b c s).rounds = s.rounds ∧ (receiveFrame b c s).free = s.free ∧
    (receiveFrame b c s).emptyCutoffs = s.emptyCutoffs ∧ (receiveFrame b c s).ports = s.ports ∧
    (receiveFrame b c s).drawTimeout = s.drawTimeout ∧ (receiveFrame b c s).sweep = s.sweep ∧
    (receiveFrame b c s).notices = s.notices := by
  unfold receiveFrame; repeat' split
  all_goals simp

@[simp] theorem idleTimeout_frame (b : Bool) (s : State) :
    (idleTimeout b s).pending = s.pending ∧ (idleTimeout b s).rstLow = s.rstLow ∧
    (idleTimeout b s).rateHigh = s.rateHigh ∧ (idleTimeout b s).txOut = s.txOut ∧
    (idleTimeout b s).lanes = s.lanes ∧ (idleTimeout b s).intake = s.intake ∧ (idleTimeout b s).table = s.table ∧
    (idleTimeout b s).profiles = s.profiles ∧ (idleTimeout b s).cond = s.cond ∧ (idleTimeout b s).time = s.time ∧
    (idleTimeout b s).rounds = s.rounds ∧ (idleTimeout b s).free = s.free ∧
    (idleTimeout b s).emptyCutoffs = s.emptyCutoffs ∧ (idleTimeout b s).ports = s.ports ∧
    (idleTimeout b s).drawTimeout = s.drawTimeout ∧ (idleTimeout b s).sweep = s.sweep ∧
    (idleTimeout b s).notices = s.notices := by
  unfold idleTimeout; dsimp only; repeat' split
  all_goals simp

@[simp] theorem badFrame_frame (c : BadCause) (s : State) :
    (badFrame c s).pending = s.pending ∧ (badFrame c s).rstLow = s.rstLow ∧ (badFrame c s).rateHigh = s.rateHigh ∧
    (badFrame c s).txOut = s.txOut ∧ (badFrame c s).lanes = s.lanes ∧ (badFrame c s).intake = s.intake ∧
    (badFrame c s).table = s.table ∧ (badFrame c s).profiles = s.profiles ∧ (badFrame c s).cond = s.cond ∧
    (badFrame c s).time = s.time ∧ (badFrame c s).rounds = s.rounds ∧ (badFrame c s).free = s.free ∧
    (badFrame c s).emptyCutoffs = s.emptyCutoffs ∧ (badFrame c s).ports = s.ports ∧
    (badFrame c s).drawTimeout = s.drawTimeout ∧ (badFrame c s).sweep = s.sweep ∧ (badFrame c s).notices = s.notices := by
  unfold badFrame; repeat' split
  all_goals simp

@[simp] theorem takeOldest_frame (s : State) (r : Request) (l : List Request) :
    (takeOldest s r l).pending = s.pending ∧ (takeOldest s r l).rstLow = s.rstLow ∧
    (takeOldest s r l).rateHigh = s.rateHigh ∧ (takeOldest s r l).txOut = s.txOut ∧
    (takeOldest s r l).lanes = s.lanes ∧ (takeOldest s r l).intake = s.intake ∧
    (takeOldest s r l).table = s.table ∧ (takeOldest s r l).profiles = s.profiles ∧
    (takeOldest s r l).cond = s.cond ∧ (takeOldest s r l).time = s.time ∧ (takeOldest s r l).rounds = s.rounds ∧
    (takeOldest s r l).free = s.free ∧ (takeOldest s r l).emptyCutoffs = s.emptyCutoffs ∧
    (takeOldest s r l).ports = s.ports ∧ (takeOldest s r l).drawTimeout = s.drawTimeout ∧
    (takeOldest s r l).sweep = s.sweep ∧ (takeOldest s r l).notices = s.notices := by
  unfold takeOldest; dsimp only; repeat' split
  all_goals simp

@[simp] theorem takeRequest_frame (s : State) :
    (takeRequest s).pending = s.pending ∧ (takeRequest s).rstLow = s.rstLow ∧
    (takeRequest s).rateHigh = s.rateHigh ∧ (takeRequest s).txOut = s.txOut ∧ (takeRequest s).lanes = s.lanes ∧
    (takeRequest s).intake = s.intake ∧ (takeRequest s).table = s.table ∧ (takeRequest s).profiles = s.profiles ∧
    (takeRequest s).cond = s.cond ∧ (takeRequest s).time = s.time ∧ (takeRequest s).rounds = s.rounds ∧
    (takeRequest s).free = s.free ∧ (takeRequest s).emptyCutoffs = s.emptyCutoffs ∧
    (takeRequest s).ports = s.ports ∧ (takeRequest s).drawTimeout = s.drawTimeout ∧
    (takeRequest s).sweep = s.sweep ∧ (takeRequest s).notices = s.notices := by
  unfold takeRequest; repeat' split
  all_goals simp

@[simp] theorem answerUnknown_frame (s : State) :
    (answerUnknown s).pending = s.pending ∧ (answerUnknown s).rstLow = s.rstLow ∧
    (answerUnknown s).rateHigh = s.rateHigh ∧ (answerUnknown s).txOut = s.txOut ∧
    (answerUnknown s).lanes = s.lanes ∧ (answerUnknown s).intake = s.intake ∧ (answerUnknown s).table = s.table ∧
    (answerUnknown s).profiles = s.profiles ∧ (answerUnknown s).cond = s.cond ∧ (answerUnknown s).time = s.time ∧
    (answerUnknown s).rounds = s.rounds ∧ (answerUnknown s).free = s.free ∧
    (answerUnknown s).emptyCutoffs = s.emptyCutoffs ∧ (answerUnknown s).ports = s.ports ∧
    (answerUnknown s).drawTimeout = s.drawTimeout ∧ (answerUnknown s).sweep = s.sweep ∧
    (answerUnknown s).notices = s.notices := by
  unfold answerUnknown; repeat' split
  all_goals simp

@[simp] theorem frameSent_frame (s : State) :
    (frameSent s).pending = s.pending ∧ (frameSent s).rstLow = s.rstLow ∧ (frameSent s).rateHigh = s.rateHigh ∧
    (frameSent s).lanes = s.lanes ∧ (frameSent s).intake = s.intake ∧ (frameSent s).table = s.table ∧
    (frameSent s).profiles = s.profiles ∧ (frameSent s).cond = s.cond ∧ (frameSent s).time = s.time ∧
    (frameSent s).rounds = s.rounds ∧ (frameSent s).free = s.free ∧ (frameSent s).emptyCutoffs = s.emptyCutoffs ∧
    (frameSent s).ports = s.ports ∧ (frameSent s).drawTimeout = s.drawTimeout ∧ (frameSent s).sweep = s.sweep ∧
    (frameSent s).notices = s.notices := by
  unfold frameSent; dsimp only; repeat' split
  all_goals simp

@[simp] theorem buildNotice_frame (s : State) :
    (buildNotice s).pending = s.pending ∧ (buildNotice s).rstLow = s.rstLow ∧
    (buildNotice s).rateHigh = s.rateHigh ∧ (buildNotice s).txOut = s.txOut ∧ (buildNotice s).lanes = s.lanes ∧
    (buildNotice s).intake = s.intake ∧ (buildNotice s).table = s.table ∧ (buildNotice s).profiles = s.profiles ∧
    (buildNotice s).cond = s.cond ∧ (buildNotice s).time = s.time ∧ (buildNotice s).rounds = s.rounds ∧
    (buildNotice s).free = s.free ∧ (buildNotice s).emptyCutoffs = s.emptyCutoffs ∧
    (buildNotice s).ports = s.ports ∧ (buildNotice s).drawTimeout = s.drawTimeout ∧ (buildNotice s).sweep = s.sweep := by
  unfold buildNotice; dsimp only; repeat' split
  all_goals simp

@[simp] theorem expirePort_frame (s : State) (p : Fin 4) (q : Fin 64) :
    (expirePort s p q).pending = s.pending ∧ (expirePort s p q).rstLow = s.rstLow ∧
    (expirePort s p q).rateHigh = s.rateHigh ∧ (expirePort s p q).txOut = s.txOut ∧
    (expirePort s p q).lanes = s.lanes ∧ (expirePort s p q).table = s.table ∧
    (expirePort s p q).profiles = s.profiles ∧ (expirePort s p q).time = s.time ∧
    (expirePort s p q).emptyCutoffs = s.emptyCutoffs ∧ (expirePort s p q).drawTimeout = s.drawTimeout ∧
    (expirePort s p q).sweep = s.sweep ∧ (expirePort s p q).link = s.link := by
  simp [expirePort]

@[simp] theorem takeExpiry_frame (p : Fin 4) (s : State) :
    (takeExpiry p s).pending = s.pending ∧ (takeExpiry p s).rstLow = s.rstLow ∧
    (takeExpiry p s).rateHigh = s.rateHigh ∧ (takeExpiry p s).txOut = s.txOut ∧ (takeExpiry p s).lanes = s.lanes ∧
    (takeExpiry p s).table = s.table ∧ (takeExpiry p s).profiles = s.profiles ∧ (takeExpiry p s).time = s.time ∧
    (takeExpiry p s).emptyCutoffs = s.emptyCutoffs ∧ (takeExpiry p s).drawTimeout = s.drawTimeout ∧
    (takeExpiry p s).sweep = s.sweep ∧ (takeExpiry p s).link = s.link := by
  unfold takeExpiry; repeat' split
  all_goals simp

@[simp] theorem holdRequest_frame (r : Request) (s : State) :
    (holdRequest r s).pending = s.pending ∧ (holdRequest r s).rstLow = s.rstLow ∧
    (holdRequest r s).rateHigh = s.rateHigh ∧ (holdRequest r s).txOut = s.txOut ∧
    (holdRequest r s).lanes = s.lanes ∧ (holdRequest r s).table = s.table ∧
    (holdRequest r s).profiles = s.profiles ∧ (holdRequest r s).cond = s.cond ∧ (holdRequest r s).time = s.time ∧
    (holdRequest r s).rounds = s.rounds ∧ (holdRequest r s).free = s.free ∧
    (holdRequest r s).emptyCutoffs = s.emptyCutoffs ∧ (holdRequest r s).ports = s.ports ∧
    (holdRequest r s).drawTimeout = s.drawTimeout ∧ (holdRequest r s).sweep = s.sweep := by
  unfold holdRequest; dsimp only; repeat' split
  all_goals simp

@[simp] theorem resumeRequest_frame (r : Request) (s : State) :
    (resumeRequest r s).pending = s.pending ∧ (resumeRequest r s).rstLow = s.rstLow ∧
    (resumeRequest r s).rateHigh = s.rateHigh ∧ (resumeRequest r s).txOut = s.txOut ∧
    (resumeRequest r s).lanes = s.lanes ∧ (resumeRequest r s).table = s.table ∧
    (resumeRequest r s).profiles = s.profiles ∧ (resumeRequest r s).cond = s.cond ∧
    (resumeRequest r s).time = s.time ∧ (resumeRequest r s).rounds = s.rounds ∧ (resumeRequest r s).free = s.free ∧
    (resumeRequest r s).emptyCutoffs = s.emptyCutoffs ∧ (resumeRequest r s).ports = s.ports ∧
    (resumeRequest r s).drawTimeout = s.drawTimeout ∧ (resumeRequest r s).sweep = s.sweep := by
  unfold resumeRequest; dsimp only; repeat' split
  all_goals simp

@[simp] theorem stepRequest_frame (r : Request) (s : State) :
    (stepRequest r s).pending = s.pending ∧ (stepRequest r s).rstLow = s.rstLow ∧
    (stepRequest r s).rateHigh = s.rateHigh ∧ (stepRequest r s).txOut = s.txOut ∧
    (stepRequest r s).lanes = s.lanes ∧ (stepRequest r s).profiles = s.profiles ∧ (stepRequest r s).time = s.time ∧
    (stepRequest r s).emptyCutoffs = s.emptyCutoffs ∧ (stepRequest r s).ports = s.ports ∧
    (stepRequest r s).drawTimeout = s.drawTimeout := by
  unfold stepRequest; dsimp only; repeat' split
  all_goals simp

@[simp] theorem windowReadRequest_frame (r : Request) (s : State) :
    (windowReadRequest r s).pending = s.pending ∧ (windowReadRequest r s).rstLow = s.rstLow ∧
    (windowReadRequest r s).rateHigh = s.rateHigh ∧ (windowReadRequest r s).txOut = s.txOut ∧
    (windowReadRequest r s).lanes = s.lanes ∧ (windowReadRequest r s).intake = s.intake ∧
    (windowReadRequest r s).table = s.table ∧ (windowReadRequest r s).profiles = s.profiles ∧
    (windowReadRequest r s).cond = s.cond ∧ (windowReadRequest r s).time = s.time ∧
    (windowReadRequest r s).rounds = s.rounds ∧ (windowReadRequest r s).free = s.free ∧
    (windowReadRequest r s).emptyCutoffs = s.emptyCutoffs ∧ (windowReadRequest r s).ports = s.ports ∧
    (windowReadRequest r s).drawTimeout = s.drawTimeout ∧ (windowReadRequest r s).sweep = s.sweep ∧
    (windowReadRequest r s).notices = s.notices := by
  unfold windowReadRequest; dsimp only; repeat' split
  all_goals simp

@[simp] theorem laneEnableSetting_frame (r : Request) (v : Nat) (s : State) :
    (laneEnableSetting r v s).pending = s.pending ∧ (laneEnableSetting r v s).rstLow = s.rstLow ∧
    (laneEnableSetting r v s).rateHigh = s.rateHigh ∧ (laneEnableSetting r v s).txOut = s.txOut ∧
    (laneEnableSetting r v s).intake = s.intake ∧ (laneEnableSetting r v s).table = s.table ∧
    (laneEnableSetting r v s).profiles = s.profiles ∧ (laneEnableSetting r v s).cond = s.cond ∧
    (laneEnableSetting r v s).time = s.time ∧ (laneEnableSetting r v s).rounds = s.rounds ∧
    (laneEnableSetting r v s).free = s.free ∧ (laneEnableSetting r v s).emptyCutoffs = s.emptyCutoffs ∧
    (laneEnableSetting r v s).ports = s.ports ∧ (laneEnableSetting r v s).drawTimeout = s.drawTimeout ∧
    (laneEnableSetting r v s).sweep = s.sweep ∧ (laneEnableSetting r v s).notices = s.notices := by
  unfold laneEnableSetting; split <;> simp [settingStored]

@[simp] theorem dedupHoldSetting_frame (r : Request) (v : Nat) (s : State) :
    (dedupHoldSetting r v s).pending = s.pending ∧ (dedupHoldSetting r v s).rstLow = s.rstLow ∧
    (dedupHoldSetting r v s).rateHigh = s.rateHigh ∧ (dedupHoldSetting r v s).txOut = s.txOut ∧
    (dedupHoldSetting r v s).lanes = s.lanes ∧ (dedupHoldSetting r v s).table = s.table ∧
    (dedupHoldSetting r v s).profiles = s.profiles ∧ (dedupHoldSetting r v s).cond = s.cond ∧
    (dedupHoldSetting r v s).time = s.time ∧ (dedupHoldSetting r v s).rounds = s.rounds ∧
    (dedupHoldSetting r v s).free = s.free ∧ (dedupHoldSetting r v s).emptyCutoffs = s.emptyCutoffs ∧
    (dedupHoldSetting r v s).ports = s.ports ∧ (dedupHoldSetting r v s).drawTimeout = s.drawTimeout ∧
    (dedupHoldSetting r v s).sweep = s.sweep ∧ (dedupHoldSetting r v s).notices = s.notices := by
  unfold dedupHoldSetting; split <;> simp [settingStored]

@[simp] theorem epochPeriodSetting_frame (r : Request) (v : Nat) (s : State) :
    (epochPeriodSetting r v s).pending = s.pending ∧ (epochPeriodSetting r v s).rstLow = s.rstLow ∧
    (epochPeriodSetting r v s).rateHigh = s.rateHigh ∧ (epochPeriodSetting r v s).txOut = s.txOut ∧
    (epochPeriodSetting r v s).lanes = s.lanes ∧ (epochPeriodSetting r v s).intake = s.intake ∧
    (epochPeriodSetting r v s).table = s.table ∧ (epochPeriodSetting r v s).profiles = s.profiles ∧
    (epochPeriodSetting r v s).cond = s.cond ∧ (epochPeriodSetting r v s).rounds = s.rounds ∧
    (epochPeriodSetting r v s).free = s.free ∧ (epochPeriodSetting r v s).emptyCutoffs = s.emptyCutoffs ∧
    (epochPeriodSetting r v s).ports = s.ports ∧ (epochPeriodSetting r v s).drawTimeout = s.drawTimeout ∧
    (epochPeriodSetting r v s).sweep = s.sweep ∧ (epochPeriodSetting r v s).notices = s.notices := by
  unfold epochPeriodSetting; split <;> simp [settingStored]

@[simp] theorem sweepIntervalSetting_frame (r : Request) (v : Nat) (s : State) :
    (sweepIntervalSetting r v s).pending = s.pending ∧ (sweepIntervalSetting r v s).rstLow = s.rstLow ∧
    (sweepIntervalSetting r v s).rateHigh = s.rateHigh ∧ (sweepIntervalSetting r v s).txOut = s.txOut ∧
    (sweepIntervalSetting r v s).lanes = s.lanes ∧ (sweepIntervalSetting r v s).intake = s.intake ∧
    (sweepIntervalSetting r v s).table = s.table ∧ (sweepIntervalSetting r v s).profiles = s.profiles ∧
    (sweepIntervalSetting r v s).cond = s.cond ∧ (sweepIntervalSetting r v s).rounds = s.rounds ∧
    (sweepIntervalSetting r v s).free = s.free ∧ (sweepIntervalSetting r v s).emptyCutoffs = s.emptyCutoffs ∧
    (sweepIntervalSetting r v s).ports = s.ports ∧ (sweepIntervalSetting r v s).drawTimeout = s.drawTimeout ∧
    (sweepIntervalSetting r v s).sweep = s.sweep ∧ (sweepIntervalSetting r v s).notices = s.notices := by
  unfold sweepIntervalSetting; split <;> simp [settingStored]

@[simp] theorem drawIdleLimitSetting_frame (r : Request) (v : Nat) (s : State) :
    (drawIdleLimitSetting r v s).pending = s.pending ∧ (drawIdleLimitSetting r v s).rstLow = s.rstLow ∧
    (drawIdleLimitSetting r v s).rateHigh = s.rateHigh ∧ (drawIdleLimitSetting r v s).txOut = s.txOut ∧
    (drawIdleLimitSetting r v s).lanes = s.lanes ∧ (drawIdleLimitSetting r v s).intake = s.intake ∧
    (drawIdleLimitSetting r v s).table = s.table ∧ (drawIdleLimitSetting r v s).profiles = s.profiles ∧
    (drawIdleLimitSetting r v s).cond = s.cond ∧ (drawIdleLimitSetting r v s).time = s.time ∧
    (drawIdleLimitSetting r v s).rounds = s.rounds ∧ (drawIdleLimitSetting r v s).free = s.free ∧
    (drawIdleLimitSetting r v s).emptyCutoffs = s.emptyCutoffs ∧ (drawIdleLimitSetting r v s).ports = s.ports ∧
    (drawIdleLimitSetting r v s).sweep = s.sweep ∧ (drawIdleLimitSetting r v s).notices = s.notices := by
  unfold drawIdleLimitSetting; split <;> simp [settingStored]

@[simp] theorem insertBin_frame (s : State) (r : Request) (o : BinPut) :
    (insertBin s r o).pending = s.pending ∧ (insertBin s r o).rstLow = s.rstLow ∧
    (insertBin s r o).rateHigh = s.rateHigh ∧ (insertBin s r o).txOut = s.txOut ∧
    (insertBin s r o).lanes = s.lanes ∧ (insertBin s r o).intake = s.intake ∧
    (insertBin s r o).profiles = s.profiles ∧ (insertBin s r o).cond = s.cond ∧ (insertBin s r o).time = s.time ∧
    (insertBin s r o).rounds = s.rounds ∧ (insertBin s r o).free = s.free ∧
    (insertBin s r o).emptyCutoffs = s.emptyCutoffs ∧ (insertBin s r o).ports = s.ports ∧
    (insertBin s r o).drawTimeout = s.drawTimeout ∧ (insertBin s r o).sweep = s.sweep ∧
    (insertBin s r o).notices = s.notices := by
  unfold insertBin; repeat' split
  all_goals simp

@[simp] theorem takeSheetEvent_frame (s : State) (e : SheetEvent) :
    (takeSheetEvent s e).pending = s.pending ∧ (takeSheetEvent s e).rstLow = s.rstLow ∧
    (takeSheetEvent s e).rateHigh = s.rateHigh ∧ (takeSheetEvent s e).txOut = s.txOut ∧
    (takeSheetEvent s e).lanes = s.lanes ∧ (takeSheetEvent s e).table = s.table ∧
    (takeSheetEvent s e).profiles = s.profiles ∧ (takeSheetEvent s e).drawTimeout = s.drawTimeout ∧
    (takeSheetEvent s e).sweep = s.sweep ∧ (takeSheetEvent s e).link = s.link := by
  unfold takeSheetEvent; repeat' split
  all_goals simp

@[simp] theorem takeSheetEvents_frame (l : List SheetEvent) (s : State) :
    (l.foldl takeSheetEvent s).pending = s.pending ∧ (l.foldl takeSheetEvent s).rstLow = s.rstLow ∧
    (l.foldl takeSheetEvent s).rateHigh = s.rateHigh ∧ (l.foldl takeSheetEvent s).txOut = s.txOut ∧
    (l.foldl takeSheetEvent s).lanes = s.lanes ∧ (l.foldl takeSheetEvent s).table = s.table ∧
    (l.foldl takeSheetEvent s).profiles = s.profiles ∧ (l.foldl takeSheetEvent s).drawTimeout = s.drawTimeout ∧
    (l.foldl takeSheetEvent s).sweep = s.sweep ∧ (l.foldl takeSheetEvent s).link = s.link := by
  induction l generalizing s with
  | nil => simp
  | cons e l ih => simp [ih]

@[simp] theorem placeMoved_frame (s : State) (i : Nat) (x : BinRecord) :
    (placeMoved s i x).1.pending = s.pending ∧ (placeMoved s i x).1.rstLow = s.rstLow ∧
    (placeMoved s i x).1.rateHigh = s.rateHigh ∧ (placeMoved s i x).1.txOut = s.txOut ∧
    (placeMoved s i x).1.lanes = s.lanes ∧ (placeMoved s i x).1.profiles = s.profiles ∧
    (placeMoved s i x).1.time = s.time ∧ (placeMoved s i x).1.emptyCutoffs = s.emptyCutoffs ∧
    (placeMoved s i x).1.ports = s.ports ∧ (placeMoved s i x).1.drawTimeout = s.drawTimeout ∧
    (placeMoved s i x).1.link = s.link := by
  unfold placeMoved; dsimp only; repeat' split
  all_goals simp

@[simp] theorem updateBin_frame (s : State) (i : Nat) (x : BinRecord) (o : BinPut) (l : List SheetEvent) :
    (updateBin s i x o l).1.pending = s.pending ∧ (updateBin s i x o l).1.rstLow = s.rstLow ∧
    (updateBin s i x o l).1.rateHigh = s.rateHigh ∧ (updateBin s i x o l).1.txOut = s.txOut ∧
    (updateBin s i x o l).1.lanes = s.lanes ∧ (updateBin s i x o l).1.profiles = s.profiles ∧
    (updateBin s i x o l).1.drawTimeout = s.drawTimeout ∧ (updateBin s i x o l).1.link = s.link := by
  unfold updateBin; repeat' split
  all_goals simp

@[simp] theorem updateRequest_frame (s : State) (r : Request) (i : Nat) (x : BinRecord) (o : BinPut) (l : List SheetEvent) :
    (updateRequest s r i x o l).pending = s.pending ∧ (updateRequest s r i x o l).rstLow = s.rstLow ∧
    (updateRequest s r i x o l).rateHigh = s.rateHigh ∧ (updateRequest s r i x o l).txOut = s.txOut ∧
    (updateRequest s r i x o l).lanes = s.lanes ∧ (updateRequest s r i x o l).profiles = s.profiles ∧
    (updateRequest s r i x o l).drawTimeout = s.drawTimeout := by
  unfold updateRequest; dsimp only; repeat' split
  all_goals simp

@[simp] theorem reloadRequest_frame (s : State) (r : Request) (i : Nat) (o : BinPut) :
    (reloadRequest s r i o).pending = s.pending ∧ (reloadRequest s r i o).rstLow = s.rstLow ∧
    (reloadRequest s r i o).rateHigh = s.rateHigh ∧ (reloadRequest s r i o).txOut = s.txOut ∧
    (reloadRequest s r i o).lanes = s.lanes ∧ (reloadRequest s r i o).profiles = s.profiles ∧
    (reloadRequest s r i o).time = s.time ∧ (reloadRequest s r i o).emptyCutoffs = s.emptyCutoffs ∧
    (reloadRequest s r i o).ports = s.ports ∧ (reloadRequest s r i o).drawTimeout = s.drawTimeout := by
  simp [reloadRequest]

@[simp] theorem putBin_frame (s : State) (r : Request) (o : BinPut) (l : List SheetEvent) :
    (putBin s r o l).pending = s.pending ∧ (putBin s r o l).rstLow = s.rstLow ∧
    (putBin s r o l).rateHigh = s.rateHigh ∧ (putBin s r o l).txOut = s.txOut ∧ (putBin s r o l).lanes = s.lanes ∧
    (putBin s r o l).profiles = s.profiles ∧ (putBin s r o l).drawTimeout = s.drawTimeout := by
  unfold putBin; repeat' split
  all_goals simp

@[simp] theorem binPutRequest_frame (l : List SheetEvent) (r : Request) (s : State) :
    (binPutRequest l r s).pending = s.pending ∧ (binPutRequest l r s).rstLow = s.rstLow ∧
    (binPutRequest l r s).rateHigh = s.rateHigh ∧ (binPutRequest l r s).txOut = s.txOut ∧
    (binPutRequest l r s).lanes = s.lanes ∧ (binPutRequest l r s).profiles = s.profiles ∧
    (binPutRequest l r s).drawTimeout = s.drawTimeout := by
  unfold binPutRequest; repeat' split
  all_goals simp

@[simp] theorem getBin_frame (s : State) (r : Request) (b : Word32) :
    (getBin s r b).pending = s.pending ∧ (getBin s r b).rstLow = s.rstLow ∧ (getBin s r b).rateHigh = s.rateHigh ∧
    (getBin s r b).txOut = s.txOut ∧ (getBin s r b).lanes = s.lanes ∧ (getBin s r b).profiles = s.profiles ∧
    (getBin s r b).time = s.time ∧ (getBin s r b).emptyCutoffs = s.emptyCutoffs ∧ (getBin s r b).ports = s.ports ∧
    (getBin s r b).drawTimeout = s.drawTimeout := by
  unfold getBin; repeat' split
  all_goals simp

@[simp] theorem binGetRequest_frame (r : Request) (s : State) :
    (binGetRequest r s).pending = s.pending ∧ (binGetRequest r s).rstLow = s.rstLow ∧
    (binGetRequest r s).rateHigh = s.rateHigh ∧ (binGetRequest r s).txOut = s.txOut ∧
    (binGetRequest r s).lanes = s.lanes ∧ (binGetRequest r s).profiles = s.profiles ∧
    (binGetRequest r s).time = s.time ∧ (binGetRequest r s).emptyCutoffs = s.emptyCutoffs ∧
    (binGetRequest r s).ports = s.ports ∧ (binGetRequest r s).drawTimeout = s.drawTimeout := by
  unfold binGetRequest; split
  · generalize binId? _ _ _ _ = o
    cases o <;> simp
  · simp

@[simp] theorem markDropped_frame (s : State) (i : Nat) :
    (markDropped s i).pending = s.pending ∧ (markDropped s i).rstLow = s.rstLow ∧
    (markDropped s i).rateHigh = s.rateHigh ∧ (markDropped s i).txOut = s.txOut ∧
    (markDropped s i).lanes = s.lanes ∧ (markDropped s i).table = s.table ∧
    (markDropped s i).profiles = s.profiles ∧ (markDropped s i).cond = s.cond ∧ (markDropped s i).time = s.time ∧
    (markDropped s i).rounds = s.rounds ∧ (markDropped s i).free = s.free ∧
    (markDropped s i).emptyCutoffs = s.emptyCutoffs ∧ (markDropped s i).ports = s.ports ∧
    (markDropped s i).drawTimeout = s.drawTimeout ∧ (markDropped s i).sweep = s.sweep ∧
    (markDropped s i).link = s.link ∧ (markDropped s i).notices = s.notices := by
  simp [markDropped]

@[simp] theorem dropSlot_frame (s : State) (i : Nat) :
    (dropSlot s i).pending = s.pending ∧ (dropSlot s i).rstLow = s.rstLow ∧ (dropSlot s i).rateHigh = s.rateHigh ∧
    (dropSlot s i).txOut = s.txOut ∧ (dropSlot s i).lanes = s.lanes ∧ (dropSlot s i).profiles = s.profiles ∧
    (dropSlot s i).cond = s.cond ∧ (dropSlot s i).time = s.time ∧ (dropSlot s i).emptyCutoffs = s.emptyCutoffs ∧
    (dropSlot s i).ports = s.ports ∧ (dropSlot s i).drawTimeout = s.drawTimeout ∧ (dropSlot s i).sweep = s.sweep ∧
    (dropSlot s i).link = s.link ∧ (dropSlot s i).notices = s.notices := by
  simp [dropSlot]

@[simp] theorem dropBin_frame (s : State) (r : Request) (b : Word32) :
    (dropBin s r b).pending = s.pending ∧ (dropBin s r b).rstLow = s.rstLow ∧
    (dropBin s r b).rateHigh = s.rateHigh ∧ (dropBin s r b).txOut = s.txOut ∧ (dropBin s r b).lanes = s.lanes ∧
    (dropBin s r b).profiles = s.profiles ∧ (dropBin s r b).time = s.time ∧
    (dropBin s r b).emptyCutoffs = s.emptyCutoffs ∧ (dropBin s r b).ports = s.ports ∧
    (dropBin s r b).drawTimeout = s.drawTimeout := by
  unfold dropBin; repeat' split
  all_goals simp

@[simp] theorem binDropRequest_frame (r : Request) (s : State) :
    (binDropRequest r s).pending = s.pending ∧ (binDropRequest r s).rstLow = s.rstLow ∧
    (binDropRequest r s).rateHigh = s.rateHigh ∧ (binDropRequest r s).txOut = s.txOut ∧
    (binDropRequest r s).lanes = s.lanes ∧ (binDropRequest r s).profiles = s.profiles ∧
    (binDropRequest r s).time = s.time ∧ (binDropRequest r s).emptyCutoffs = s.emptyCutoffs ∧
    (binDropRequest r s).ports = s.ports ∧ (binDropRequest r s).drawTimeout = s.drawTimeout := by
  unfold binDropRequest; repeat' split
  all_goals simp

@[simp] theorem tableReadRequest_frame (r : Request) (s : State) :
    (tableReadRequest r s).pending = s.pending ∧ (tableReadRequest r s).rstLow = s.rstLow ∧
    (tableReadRequest r s).rateHigh = s.rateHigh ∧ (tableReadRequest r s).txOut = s.txOut ∧
    (tableReadRequest r s).lanes = s.lanes ∧ (tableReadRequest r s).profiles = s.profiles ∧
    (tableReadRequest r s).time = s.time ∧ (tableReadRequest r s).emptyCutoffs = s.emptyCutoffs ∧
    (tableReadRequest r s).ports = s.ports ∧ (tableReadRequest r s).drawTimeout = s.drawTimeout := by
  unfold tableReadRequest; repeat' split
  all_goals simp

@[simp] theorem profilePutRequest_frame (r : Request) (s : State) :
    (profilePutRequest r s).pending = s.pending ∧ (profilePutRequest r s).rstLow = s.rstLow ∧
    (profilePutRequest r s).rateHigh = s.rateHigh ∧ (profilePutRequest r s).txOut = s.txOut ∧
    (profilePutRequest r s).lanes = s.lanes ∧ (profilePutRequest r s).intake = s.intake ∧
    (profilePutRequest r s).table = s.table ∧ (profilePutRequest r s).cond = s.cond ∧
    (profilePutRequest r s).time = s.time ∧ (profilePutRequest r s).rounds = s.rounds ∧
    (profilePutRequest r s).free = s.free ∧ (profilePutRequest r s).emptyCutoffs = s.emptyCutoffs ∧
    (profilePutRequest r s).ports = s.ports ∧ (profilePutRequest r s).drawTimeout = s.drawTimeout ∧
    (profilePutRequest r s).sweep = s.sweep ∧ (profilePutRequest r s).notices = s.notices := by
  unfold profilePutRequest; repeat' split
  all_goals simp

@[simp] theorem profileGetRequest_frame (r : Request) (s : State) :
    (profileGetRequest r s).pending = s.pending ∧ (profileGetRequest r s).rstLow = s.rstLow ∧
    (profileGetRequest r s).rateHigh = s.rateHigh ∧ (profileGetRequest r s).txOut = s.txOut ∧
    (profileGetRequest r s).lanes = s.lanes ∧ (profileGetRequest r s).intake = s.intake ∧
    (profileGetRequest r s).table = s.table ∧ (profileGetRequest r s).profiles = s.profiles ∧
    (profileGetRequest r s).cond = s.cond ∧ (profileGetRequest r s).time = s.time ∧
    (profileGetRequest r s).rounds = s.rounds ∧ (profileGetRequest r s).free = s.free ∧
    (profileGetRequest r s).emptyCutoffs = s.emptyCutoffs ∧ (profileGetRequest r s).ports = s.ports ∧
    (profileGetRequest r s).drawTimeout = s.drawTimeout ∧ (profileGetRequest r s).sweep = s.sweep ∧
    (profileGetRequest r s).notices = s.notices := by
  unfold profileGetRequest; repeat' split
  all_goals simp

@[simp] theorem bindPort_frame (s : State) (p : Fin 4) (q : Fin 64) :
    (bindPort s p q).pending = s.pending ∧ (bindPort s p q).rstLow = s.rstLow ∧
    (bindPort s p q).rateHigh = s.rateHigh ∧ (bindPort s p q).txOut = s.txOut ∧ (bindPort s p q).lanes = s.lanes ∧
    (bindPort s p q).intake = s.intake ∧ (bindPort s p q).table = s.table ∧
    (bindPort s p q).profiles = s.profiles ∧ (bindPort s p q).cond = s.cond ∧ (bindPort s p q).time = s.time ∧
    (bindPort s p q).free = s.free ∧ (bindPort s p q).emptyCutoffs = s.emptyCutoffs ∧
    (bindPort s p q).drawTimeout = s.drawTimeout ∧ (bindPort s p q).sweep = s.sweep ∧ (bindPort s p q).link = s.link := by
  unfold bindPort; dsimp only; repeat' split
  all_goals simp

@[simp] theorem bindRequest_frame (r : Request) (s : State) :
    (bindRequest r s).pending = s.pending ∧ (bindRequest r s).rstLow = s.rstLow ∧
    (bindRequest r s).rateHigh = s.rateHigh ∧ (bindRequest r s).txOut = s.txOut ∧
    (bindRequest r s).lanes = s.lanes ∧ (bindRequest r s).intake = s.intake ∧ (bindRequest r s).table = s.table ∧
    (bindRequest r s).profiles = s.profiles ∧ (bindRequest r s).cond = s.cond ∧ (bindRequest r s).time = s.time ∧
    (bindRequest r s).free = s.free ∧ (bindRequest r s).emptyCutoffs = s.emptyCutoffs ∧
    (bindRequest r s).drawTimeout = s.drawTimeout ∧ (bindRequest r s).sweep = s.sweep := by
  unfold bindRequest; repeat' split
  all_goals simp

@[simp] theorem unbindPort_frame (s : State) (p : Fin 4) :
    (unbindPort s p).1.pending = s.pending ∧ (unbindPort s p).1.rstLow = s.rstLow ∧
    (unbindPort s p).1.rateHigh = s.rateHigh ∧ (unbindPort s p).1.txOut = s.txOut ∧
    (unbindPort s p).1.lanes = s.lanes ∧ (unbindPort s p).1.intake = s.intake ∧
    (unbindPort s p).1.table = s.table ∧ (unbindPort s p).1.profiles = s.profiles ∧
    (unbindPort s p).1.cond = s.cond ∧ (unbindPort s p).1.time = s.time ∧
    (unbindPort s p).1.emptyCutoffs = s.emptyCutoffs ∧ (unbindPort s p).1.drawTimeout = s.drawTimeout ∧
    (unbindPort s p).1.sweep = s.sweep ∧ (unbindPort s p).1.link = s.link ∧ (unbindPort s p).1.notices = s.notices := by
  unfold unbindPort; repeat' split
  all_goals simp

@[simp] theorem unbindRequest_frame (r : Request) (s : State) :
    (unbindRequest r s).pending = s.pending ∧ (unbindRequest r s).rstLow = s.rstLow ∧
    (unbindRequest r s).rateHigh = s.rateHigh ∧ (unbindRequest r s).txOut = s.txOut ∧
    (unbindRequest r s).lanes = s.lanes ∧ (unbindRequest r s).intake = s.intake ∧
    (unbindRequest r s).table = s.table ∧ (unbindRequest r s).profiles = s.profiles ∧
    (unbindRequest r s).cond = s.cond ∧ (unbindRequest r s).time = s.time ∧
    (unbindRequest r s).emptyCutoffs = s.emptyCutoffs ∧ (unbindRequest r s).drawTimeout = s.drawTimeout ∧
    (unbindRequest r s).sweep = s.sweep ∧ (unbindRequest r s).notices = s.notices := by
  unfold unbindRequest; repeat' split
  all_goals simp

@[simp] theorem moveCursor_frame (s : State) (p : Fin 4) (q : Fin 64) (c : Nat) :
    (moveCursor s p q c).pending = s.pending ∧ (moveCursor s p q c).rstLow = s.rstLow ∧
    (moveCursor s p q c).rateHigh = s.rateHigh ∧ (moveCursor s p q c).txOut = s.txOut ∧
    (moveCursor s p q c).lanes = s.lanes ∧ (moveCursor s p q c).intake = s.intake ∧
    (moveCursor s p q c).table = s.table ∧ (moveCursor s p q c).profiles = s.profiles ∧
    (moveCursor s p q c).cond = s.cond ∧ (moveCursor s p q c).time = s.time ∧ (moveCursor s p q c).free = s.free ∧
    (moveCursor s p q c).emptyCutoffs = s.emptyCutoffs ∧ (moveCursor s p q c).drawTimeout = s.drawTimeout ∧
    (moveCursor s p q c).sweep = s.sweep ∧ (moveCursor s p q c).link = s.link := by
  unfold moveCursor; dsimp only; repeat' split
  all_goals simp

@[simp] theorem drawEntries_frame (s : State) (r : Request) (p : Fin 4) (q : Fin 64) (n : Nat) :
    (drawEntries s r p q n).pending = s.pending ∧ (drawEntries s r p q n).rstLow = s.rstLow ∧
    (drawEntries s r p q n).rateHigh = s.rateHigh ∧ (drawEntries s r p q n).txOut = s.txOut ∧
    (drawEntries s r p q n).lanes = s.lanes ∧ (drawEntries s r p q n).profiles = s.profiles ∧
    (drawEntries s r p q n).time = s.time ∧ (drawEntries s r p q n).emptyCutoffs = s.emptyCutoffs ∧
    (drawEntries s r p q n).drawTimeout = s.drawTimeout := by
  unfold drawEntries; dsimp only; repeat' split
  all_goals simp

@[simp] theorem drawRequest_frame (r : Request) (s : State) :
    (drawRequest r s).pending = s.pending ∧ (drawRequest r s).rstLow = s.rstLow ∧
    (drawRequest r s).rateHigh = s.rateHigh ∧ (drawRequest r s).txOut = s.txOut ∧
    (drawRequest r s).lanes = s.lanes ∧ (drawRequest r s).profiles = s.profiles ∧ (drawRequest r s).time = s.time ∧
    (drawRequest r s).emptyCutoffs = s.emptyCutoffs ∧ (drawRequest r s).drawTimeout = s.drawTimeout := by
  unfold drawRequest; repeat' split
  all_goals simp

@[simp] theorem rewindPort_frame (s : State) (p : Fin 4) (q : Fin 64) :
    (rewindPort s p q).pending = s.pending ∧ (rewindPort s p q).rstLow = s.rstLow ∧
    (rewindPort s p q).rateHigh = s.rateHigh ∧ (rewindPort s p q).txOut = s.txOut ∧
    (rewindPort s p q).lanes = s.lanes ∧ (rewindPort s p q).intake = s.intake ∧
    (rewindPort s p q).table = s.table ∧ (rewindPort s p q).profiles = s.profiles ∧
    (rewindPort s p q).cond = s.cond ∧ (rewindPort s p q).time = s.time ∧ (rewindPort s p q).free = s.free ∧
    (rewindPort s p q).emptyCutoffs = s.emptyCutoffs ∧ (rewindPort s p q).drawTimeout = s.drawTimeout ∧
    (rewindPort s p q).sweep = s.sweep ∧ (rewindPort s p q).link = s.link ∧ (rewindPort s p q).notices = s.notices := by
  unfold rewindPort; dsimp only; repeat' split
  all_goals simp

@[simp] theorem rewindRequest_frame (r : Request) (s : State) :
    (rewindRequest r s).pending = s.pending ∧ (rewindRequest r s).rstLow = s.rstLow ∧
    (rewindRequest r s).rateHigh = s.rateHigh ∧ (rewindRequest r s).txOut = s.txOut ∧
    (rewindRequest r s).lanes = s.lanes ∧ (rewindRequest r s).intake = s.intake ∧
    (rewindRequest r s).table = s.table ∧ (rewindRequest r s).profiles = s.profiles ∧
    (rewindRequest r s).cond = s.cond ∧ (rewindRequest r s).time = s.time ∧ (rewindRequest r s).free = s.free ∧
    (rewindRequest r s).emptyCutoffs = s.emptyCutoffs ∧ (rewindRequest r s).drawTimeout = s.drawTimeout ∧
    (rewindRequest r s).sweep = s.sweep ∧ (rewindRequest r s).notices = s.notices := by
  unfold rewindRequest; repeat' split
  all_goals simp

@[simp] theorem releaseRequest_frame (r : Request) (s : State) :
    (releaseRequest r s).pending = s.pending ∧ (releaseRequest r s).rstLow = s.rstLow ∧
    (releaseRequest r s).rateHigh = s.rateHigh ∧ (releaseRequest r s).txOut = s.txOut ∧
    (releaseRequest r s).lanes = s.lanes ∧ (releaseRequest r s).profiles = s.profiles ∧
    (releaseRequest r s).time = s.time ∧ (releaseRequest r s).drawTimeout = s.drawTimeout := by
  unfold releaseRequest; repeat' split
  all_goals simp

@[simp] theorem portGetRequest_frame (r : Request) (s : State) :
    (portGetRequest r s).pending = s.pending ∧ (portGetRequest r s).rstLow = s.rstLow ∧
    (portGetRequest r s).rateHigh = s.rateHigh ∧ (portGetRequest r s).txOut = s.txOut ∧
    (portGetRequest r s).lanes = s.lanes ∧ (portGetRequest r s).intake = s.intake ∧
    (portGetRequest r s).table = s.table ∧ (portGetRequest r s).profiles = s.profiles ∧
    (portGetRequest r s).cond = s.cond ∧ (portGetRequest r s).time = s.time ∧
    (portGetRequest r s).rounds = s.rounds ∧ (portGetRequest r s).free = s.free ∧
    (portGetRequest r s).emptyCutoffs = s.emptyCutoffs ∧ (portGetRequest r s).ports = s.ports ∧
    (portGetRequest r s).drawTimeout = s.drawTimeout ∧ (portGetRequest r s).sweep = s.sweep ∧
    (portGetRequest r s).notices = s.notices := by
  unfold portGetRequest; repeat' split
  all_goals simp

@[simp] theorem clockSetRequest_frame (r : Request) (s : State) :
    (clockSetRequest r s).pending = s.pending ∧ (clockSetRequest r s).rstLow = s.rstLow ∧
    (clockSetRequest r s).rateHigh = s.rateHigh ∧ (clockSetRequest r s).txOut = s.txOut ∧
    (clockSetRequest r s).lanes = s.lanes ∧ (clockSetRequest r s).intake = s.intake ∧
    (clockSetRequest r s).table = s.table ∧ (clockSetRequest r s).profiles = s.profiles ∧
    (clockSetRequest r s).cond = s.cond ∧ (clockSetRequest r s).rounds = s.rounds ∧
    (clockSetRequest r s).free = s.free ∧ (clockSetRequest r s).emptyCutoffs = s.emptyCutoffs ∧
    (clockSetRequest r s).ports = s.ports ∧ (clockSetRequest r s).drawTimeout = s.drawTimeout ∧
    (clockSetRequest r s).sweep = s.sweep ∧ (clockSetRequest r s).notices = s.notices := by
  unfold clockSetRequest; dsimp only; repeat' split
  all_goals simp

@[simp] theorem timeGetRequest_frame (r : Request) (s : State) :
    (timeGetRequest r s).pending = s.pending ∧ (timeGetRequest r s).rstLow = s.rstLow ∧
    (timeGetRequest r s).rateHigh = s.rateHigh ∧ (timeGetRequest r s).txOut = s.txOut ∧
    (timeGetRequest r s).lanes = s.lanes ∧ (timeGetRequest r s).intake = s.intake ∧
    (timeGetRequest r s).table = s.table ∧ (timeGetRequest r s).profiles = s.profiles ∧
    (timeGetRequest r s).cond = s.cond ∧ (timeGetRequest r s).rounds = s.rounds ∧
    (timeGetRequest r s).free = s.free ∧ (timeGetRequest r s).emptyCutoffs = s.emptyCutoffs ∧
    (timeGetRequest r s).ports = s.ports ∧ (timeGetRequest r s).drawTimeout = s.drawTimeout ∧
    (timeGetRequest r s).sweep = s.sweep ∧ (timeGetRequest r s).notices = s.notices := by
  unfold timeGetRequest; repeat' split
  all_goals simp

@[simp] theorem reexamine_frame (s : State) (k : Kind) :
    (reexamine s k).pending = s.pending ∧ (reexamine s k).rstLow = s.rstLow ∧
    (reexamine s k).rateHigh = s.rateHigh ∧ (reexamine s k).txOut = s.txOut ∧ (reexamine s k).lanes = s.lanes ∧
    (reexamine s k).table = s.table ∧ (reexamine s k).profiles = s.profiles ∧ (reexamine s k).time = s.time ∧
    (reexamine s k).rounds = s.rounds ∧ (reexamine s k).free = s.free ∧
    (reexamine s k).emptyCutoffs = s.emptyCutoffs ∧ (reexamine s k).ports = s.ports ∧
    (reexamine s k).drawTimeout = s.drawTimeout ∧ (reexamine s k).sweep = s.sweep ∧ (reexamine s k).link = s.link := by
  unfold reexamine; dsimp only; repeat' split
  all_goals simp [clearDeferred]

@[simp] theorem reexamineAll_frame (l : List Kind) (s : State) :
    (l.foldl reexamine s).pending = s.pending ∧ (l.foldl reexamine s).rstLow = s.rstLow ∧
    (l.foldl reexamine s).rateHigh = s.rateHigh ∧ (l.foldl reexamine s).txOut = s.txOut ∧
    (l.foldl reexamine s).lanes = s.lanes ∧ (l.foldl reexamine s).table = s.table ∧
    (l.foldl reexamine s).profiles = s.profiles ∧ (l.foldl reexamine s).time = s.time ∧
    (l.foldl reexamine s).rounds = s.rounds ∧ (l.foldl reexamine s).free = s.free ∧
    (l.foldl reexamine s).emptyCutoffs = s.emptyCutoffs ∧ (l.foldl reexamine s).ports = s.ports ∧
    (l.foldl reexamine s).drawTimeout = s.drawTimeout ∧ (l.foldl reexamine s).sweep = s.sweep ∧
    (l.foldl reexamine s).link = s.link := by
  induction l generalizing s with
  | nil => simp
  | cons k l ih => simp [ih]

@[simp] theorem writeRow_frame (s : State) (k : Kind) (w : Row) :
    (writeRow s k w).pending = s.pending ∧ (writeRow s k w).rstLow = s.rstLow ∧
    (writeRow s k w).rateHigh = s.rateHigh ∧ (writeRow s k w).txOut = s.txOut ∧ (writeRow s k w).lanes = s.lanes ∧
    (writeRow s k w).table = s.table ∧ (writeRow s k w).profiles = s.profiles ∧ (writeRow s k w).time = s.time ∧
    (writeRow s k w).rounds = s.rounds ∧ (writeRow s k w).free = s.free ∧
    (writeRow s k w).emptyCutoffs = s.emptyCutoffs ∧ (writeRow s k w).ports = s.ports ∧
    (writeRow s k w).drawTimeout = s.drawTimeout ∧ (writeRow s k w).sweep = s.sweep ∧ (writeRow s k w).link = s.link := by
  unfold writeRow; split <;> simp

@[simp] theorem rulePutRequest_frame (r : Request) (s : State) :
    (rulePutRequest r s).pending = s.pending ∧ (rulePutRequest r s).rstLow = s.rstLow ∧
    (rulePutRequest r s).rateHigh = s.rateHigh ∧ (rulePutRequest r s).txOut = s.txOut ∧
    (rulePutRequest r s).lanes = s.lanes ∧ (rulePutRequest r s).table = s.table ∧
    (rulePutRequest r s).profiles = s.profiles ∧ (rulePutRequest r s).time = s.time ∧
    (rulePutRequest r s).rounds = s.rounds ∧ (rulePutRequest r s).free = s.free ∧
    (rulePutRequest r s).emptyCutoffs = s.emptyCutoffs ∧ (rulePutRequest r s).ports = s.ports ∧
    (rulePutRequest r s).drawTimeout = s.drawTimeout ∧ (rulePutRequest r s).sweep = s.sweep := by
  unfold rulePutRequest; repeat' split
  all_goals simp

@[simp] theorem ruleGetRequest_frame (r : Request) (s : State) :
    (ruleGetRequest r s).pending = s.pending ∧ (ruleGetRequest r s).rstLow = s.rstLow ∧
    (ruleGetRequest r s).rateHigh = s.rateHigh ∧ (ruleGetRequest r s).txOut = s.txOut ∧
    (ruleGetRequest r s).lanes = s.lanes ∧ (ruleGetRequest r s).intake = s.intake ∧
    (ruleGetRequest r s).table = s.table ∧ (ruleGetRequest r s).profiles = s.profiles ∧
    (ruleGetRequest r s).cond = s.cond ∧ (ruleGetRequest r s).time = s.time ∧
    (ruleGetRequest r s).rounds = s.rounds ∧ (ruleGetRequest r s).free = s.free ∧
    (ruleGetRequest r s).emptyCutoffs = s.emptyCutoffs ∧ (ruleGetRequest r s).ports = s.ports ∧
    (ruleGetRequest r s).drawTimeout = s.drawTimeout ∧ (ruleGetRequest r s).sweep = s.sweep ∧
    (ruleGetRequest r s).notices = s.notices := by
  unfold ruleGetRequest; repeat' split
  all_goals simp

@[simp] theorem writeMask_frame (s : State) (m : Vector Bool 18) :
    (writeMask s m).pending = s.pending ∧ (writeMask s m).rstLow = s.rstLow ∧
    (writeMask s m).rateHigh = s.rateHigh ∧ (writeMask s m).txOut = s.txOut ∧ (writeMask s m).lanes = s.lanes ∧
    (writeMask s m).table = s.table ∧ (writeMask s m).profiles = s.profiles ∧ (writeMask s m).time = s.time ∧
    (writeMask s m).rounds = s.rounds ∧ (writeMask s m).free = s.free ∧
    (writeMask s m).emptyCutoffs = s.emptyCutoffs ∧ (writeMask s m).ports = s.ports ∧
    (writeMask s m).drawTimeout = s.drawTimeout ∧ (writeMask s m).sweep = s.sweep ∧ (writeMask s m).link = s.link := by
  simp [writeMask]

@[simp] theorem maskPutRequest_frame (r : Request) (s : State) :
    (maskPutRequest r s).pending = s.pending ∧ (maskPutRequest r s).rstLow = s.rstLow ∧
    (maskPutRequest r s).rateHigh = s.rateHigh ∧ (maskPutRequest r s).txOut = s.txOut ∧
    (maskPutRequest r s).lanes = s.lanes ∧ (maskPutRequest r s).table = s.table ∧
    (maskPutRequest r s).profiles = s.profiles ∧ (maskPutRequest r s).time = s.time ∧
    (maskPutRequest r s).rounds = s.rounds ∧ (maskPutRequest r s).free = s.free ∧
    (maskPutRequest r s).emptyCutoffs = s.emptyCutoffs ∧ (maskPutRequest r s).ports = s.ports ∧
    (maskPutRequest r s).drawTimeout = s.drawTimeout ∧ (maskPutRequest r s).sweep = s.sweep := by
  unfold maskPutRequest; repeat' split
  all_goals simp

@[simp] theorem conditionReadRequest_frame (r : Request) (s : State) :
    (conditionReadRequest r s).pending = s.pending ∧ (conditionReadRequest r s).rstLow = s.rstLow ∧
    (conditionReadRequest r s).rateHigh = s.rateHigh ∧ (conditionReadRequest r s).txOut = s.txOut ∧
    (conditionReadRequest r s).lanes = s.lanes ∧ (conditionReadRequest r s).intake = s.intake ∧
    (conditionReadRequest r s).table = s.table ∧ (conditionReadRequest r s).profiles = s.profiles ∧
    (conditionReadRequest r s).time = s.time ∧ (conditionReadRequest r s).rounds = s.rounds ∧
    (conditionReadRequest r s).free = s.free ∧ (conditionReadRequest r s).emptyCutoffs = s.emptyCutoffs ∧
    (conditionReadRequest r s).ports = s.ports ∧ (conditionReadRequest r s).drawTimeout = s.drawTimeout ∧
    (conditionReadRequest r s).sweep = s.sweep ∧ (conditionReadRequest r s).notices = s.notices := by
  unfold conditionReadRequest; repeat' split
  all_goals simp

@[simp] theorem roundPutRequest_frame (r : Request) (s : State) :
    (roundPutRequest r s).pending = s.pending ∧ (roundPutRequest r s).rstLow = s.rstLow ∧
    (roundPutRequest r s).rateHigh = s.rateHigh ∧ (roundPutRequest r s).txOut = s.txOut ∧
    (roundPutRequest r s).lanes = s.lanes ∧ (roundPutRequest r s).intake = s.intake ∧
    (roundPutRequest r s).table = s.table ∧ (roundPutRequest r s).profiles = s.profiles ∧
    (roundPutRequest r s).cond = s.cond ∧ (roundPutRequest r s).time = s.time ∧
    (roundPutRequest r s).free = s.free ∧ (roundPutRequest r s).emptyCutoffs = s.emptyCutoffs ∧
    (roundPutRequest r s).ports = s.ports ∧ (roundPutRequest r s).drawTimeout = s.drawTimeout ∧
    (roundPutRequest r s).sweep = s.sweep ∧ (roundPutRequest r s).notices = s.notices := by
  unfold roundPutRequest; repeat' split
  all_goals simp

@[simp] theorem roundGetRequest_frame (r : Request) (s : State) :
    (roundGetRequest r s).pending = s.pending ∧ (roundGetRequest r s).rstLow = s.rstLow ∧
    (roundGetRequest r s).rateHigh = s.rateHigh ∧ (roundGetRequest r s).txOut = s.txOut ∧
    (roundGetRequest r s).lanes = s.lanes ∧ (roundGetRequest r s).intake = s.intake ∧
    (roundGetRequest r s).table = s.table ∧ (roundGetRequest r s).profiles = s.profiles ∧
    (roundGetRequest r s).cond = s.cond ∧ (roundGetRequest r s).time = s.time ∧
    (roundGetRequest r s).rounds = s.rounds ∧ (roundGetRequest r s).free = s.free ∧
    (roundGetRequest r s).emptyCutoffs = s.emptyCutoffs ∧ (roundGetRequest r s).ports = s.ports ∧
    (roundGetRequest r s).drawTimeout = s.drawTimeout ∧ (roundGetRequest r s).sweep = s.sweep ∧
    (roundGetRequest r s).notices = s.notices := by
  unfold roundGetRequest; repeat' split
  all_goals simp

@[simp] theorem cutoffNowRequest_frame (r : Request) (s : State) :
    (cutoffNowRequest r s).pending = s.pending ∧ (cutoffNowRequest r s).rstLow = s.rstLow ∧
    (cutoffNowRequest r s).rateHigh = s.rateHigh ∧ (cutoffNowRequest r s).txOut = s.txOut ∧
    (cutoffNowRequest r s).lanes = s.lanes ∧ (cutoffNowRequest r s).table = s.table ∧
    (cutoffNowRequest r s).profiles = s.profiles ∧ (cutoffNowRequest r s).time = s.time ∧
    (cutoffNowRequest r s).free = s.free ∧ (cutoffNowRequest r s).drawTimeout = s.drawTimeout ∧
    (cutoffNowRequest r s).sweep = s.sweep := by
  unfold cutoffNowRequest; repeat' split
  all_goals simp

@[simp] theorem sweepRequest_frame (r : Request) (s : State) :
    (sweepRequest r s).pending = s.pending ∧ (sweepRequest r s).rstLow = s.rstLow ∧
    (sweepRequest r s).rateHigh = s.rateHigh ∧ (sweepRequest r s).txOut = s.txOut ∧
    (sweepRequest r s).lanes = s.lanes ∧ (sweepRequest r s).intake = s.intake ∧
    (sweepRequest r s).table = s.table ∧ (sweepRequest r s).profiles = s.profiles ∧
    (sweepRequest r s).cond = s.cond ∧ (sweepRequest r s).time = s.time ∧ (sweepRequest r s).rounds = s.rounds ∧
    (sweepRequest r s).free = s.free ∧ (sweepRequest r s).emptyCutoffs = s.emptyCutoffs ∧
    (sweepRequest r s).ports = s.ports ∧ (sweepRequest r s).drawTimeout = s.drawTimeout ∧
    (sweepRequest r s).notices = s.notices := by
  unfold sweepRequest; repeat' split
  all_goals simp

@[simp] theorem sweepAbortRequest_frame (r : Request) (s : State) :
    (sweepAbortRequest r s).pending = s.pending ∧ (sweepAbortRequest r s).rstLow = s.rstLow ∧
    (sweepAbortRequest r s).rateHigh = s.rateHigh ∧ (sweepAbortRequest r s).txOut = s.txOut ∧
    (sweepAbortRequest r s).lanes = s.lanes ∧ (sweepAbortRequest r s).intake = s.intake ∧
    (sweepAbortRequest r s).table = s.table ∧ (sweepAbortRequest r s).profiles = s.profiles ∧
    (sweepAbortRequest r s).cond = s.cond ∧ (sweepAbortRequest r s).time = s.time ∧
    (sweepAbortRequest r s).rounds = s.rounds ∧ (sweepAbortRequest r s).free = s.free ∧
    (sweepAbortRequest r s).emptyCutoffs = s.emptyCutoffs ∧ (sweepAbortRequest r s).ports = s.ports ∧
    (sweepAbortRequest r s).drawTimeout = s.drawTimeout ∧ (sweepAbortRequest r s).notices = s.notices := by
  unfold sweepAbortRequest; repeat' split
  all_goals simp

@[simp] theorem sweepReportRequest_frame (r : Request) (s : State) :
    (sweepReportRequest r s).pending = s.pending ∧ (sweepReportRequest r s).rstLow = s.rstLow ∧
    (sweepReportRequest r s).rateHigh = s.rateHigh ∧ (sweepReportRequest r s).txOut = s.txOut ∧
    (sweepReportRequest r s).lanes = s.lanes ∧ (sweepReportRequest r s).intake = s.intake ∧
    (sweepReportRequest r s).table = s.table ∧ (sweepReportRequest r s).profiles = s.profiles ∧
    (sweepReportRequest r s).cond = s.cond ∧ (sweepReportRequest r s).time = s.time ∧
    (sweepReportRequest r s).rounds = s.rounds ∧ (sweepReportRequest r s).free = s.free ∧
    (sweepReportRequest r s).emptyCutoffs = s.emptyCutoffs ∧ (sweepReportRequest r s).ports = s.ports ∧
    (sweepReportRequest r s).drawTimeout = s.drawTimeout ∧ (sweepReportRequest r s).sweep = s.sweep ∧
    (sweepReportRequest r s).notices = s.notices := by
  unfold sweepReportRequest; repeat' split
  all_goals simp

@[simp] theorem zeroCounters_frame (s : State) :
    (zeroCounters s).pending = s.pending ∧ (zeroCounters s).rstLow = s.rstLow ∧
    (zeroCounters s).rateHigh = s.rateHigh ∧ (zeroCounters s).txOut = s.txOut ∧
    (zeroCounters s).intake = s.intake ∧ (zeroCounters s).table = s.table ∧
    (zeroCounters s).profiles = s.profiles ∧ (zeroCounters s).cond = s.cond ∧ (zeroCounters s).time = s.time ∧
    (zeroCounters s).rounds = s.rounds ∧ (zeroCounters s).free = s.free ∧ (zeroCounters s).ports = s.ports ∧
    (zeroCounters s).drawTimeout = s.drawTimeout ∧ (zeroCounters s).notices = s.notices := by
  simp [zeroCounters]

@[simp] theorem beginStatus_frame (s : State) :
    (beginStatus s).pending = s.pending ∧ (beginStatus s).rstLow = s.rstLow ∧
    (beginStatus s).rateHigh = s.rateHigh ∧ (beginStatus s).txOut = s.txOut ∧ (beginStatus s).lanes = s.lanes ∧
    (beginStatus s).intake = s.intake ∧ (beginStatus s).table = s.table ∧ (beginStatus s).profiles = s.profiles ∧
    (beginStatus s).cond = s.cond ∧ (beginStatus s).time = s.time ∧ (beginStatus s).rounds = s.rounds ∧
    (beginStatus s).free = s.free ∧ (beginStatus s).emptyCutoffs = s.emptyCutoffs ∧
    (beginStatus s).ports = s.ports ∧ (beginStatus s).drawTimeout = s.drawTimeout ∧
    (beginStatus s).sweep = s.sweep ∧ (beginStatus s).notices = s.notices := by
  unfold beginStatus; repeat' split
  all_goals simp

@[simp] theorem readStatus_frame (l : List StatusItem) (s : State) :
    (readStatus l s).pending = s.pending ∧ (readStatus l s).rstLow = s.rstLow ∧
    (readStatus l s).rateHigh = s.rateHigh ∧ (readStatus l s).txOut = s.txOut ∧ (readStatus l s).lanes = s.lanes ∧
    (readStatus l s).intake = s.intake ∧ (readStatus l s).table = s.table ∧
    (readStatus l s).profiles = s.profiles ∧ (readStatus l s).cond = s.cond ∧ (readStatus l s).time = s.time ∧
    (readStatus l s).rounds = s.rounds ∧ (readStatus l s).free = s.free ∧
    (readStatus l s).emptyCutoffs = s.emptyCutoffs ∧ (readStatus l s).ports = s.ports ∧
    (readStatus l s).drawTimeout = s.drawTimeout ∧ (readStatus l s).sweep = s.sweep ∧
    (readStatus l s).notices = s.notices := by
  unfold readStatus; split
  · dsimp only; split <;> simp
  · simp

@[simp] theorem statusWork_frame (l : List StatusItem) (s : State) :
    (statusWork l s).pending = s.pending ∧ (statusWork l s).rstLow = s.rstLow ∧
    (statusWork l s).rateHigh = s.rateHigh ∧ (statusWork l s).txOut = s.txOut ∧ (statusWork l s).lanes = s.lanes ∧
    (statusWork l s).intake = s.intake ∧ (statusWork l s).table = s.table ∧
    (statusWork l s).profiles = s.profiles ∧ (statusWork l s).cond = s.cond ∧ (statusWork l s).time = s.time ∧
    (statusWork l s).rounds = s.rounds ∧ (statusWork l s).free = s.free ∧
    (statusWork l s).emptyCutoffs = s.emptyCutoffs ∧ (statusWork l s).ports = s.ports ∧
    (statusWork l s).drawTimeout = s.drawTimeout ∧ (statusWork l s).sweep = s.sweep ∧
    (statusWork l s).notices = s.notices := by
  simp [statusWork]

@[simp] theorem countersRequest_frame (r : Request) (s : State) :
    (countersRequest r s).pending = s.pending ∧ (countersRequest r s).rstLow = s.rstLow ∧
    (countersRequest r s).rateHigh = s.rateHigh ∧ (countersRequest r s).txOut = s.txOut ∧
    (countersRequest r s).intake = s.intake ∧ (countersRequest r s).table = s.table ∧
    (countersRequest r s).profiles = s.profiles ∧ (countersRequest r s).cond = s.cond ∧
    (countersRequest r s).time = s.time ∧ (countersRequest r s).rounds = s.rounds ∧
    (countersRequest r s).free = s.free ∧ (countersRequest r s).ports = s.ports ∧
    (countersRequest r s).drawTimeout = s.drawTimeout ∧ (countersRequest r s).notices = s.notices := by
  unfold countersRequest; repeat' split
  all_goals simp

@[simp] theorem settingGetRequest_frame (r : Request) (s : State) :
    (settingGetRequest r s).pending = s.pending ∧ (settingGetRequest r s).rstLow = s.rstLow ∧
    (settingGetRequest r s).rateHigh = s.rateHigh ∧ (settingGetRequest r s).txOut = s.txOut ∧
    (settingGetRequest r s).lanes = s.lanes ∧ (settingGetRequest r s).intake = s.intake ∧
    (settingGetRequest r s).table = s.table ∧ (settingGetRequest r s).profiles = s.profiles ∧
    (settingGetRequest r s).cond = s.cond ∧ (settingGetRequest r s).time = s.time ∧
    (settingGetRequest r s).rounds = s.rounds ∧ (settingGetRequest r s).free = s.free ∧
    (settingGetRequest r s).emptyCutoffs = s.emptyCutoffs ∧ (settingGetRequest r s).ports = s.ports ∧
    (settingGetRequest r s).drawTimeout = s.drawTimeout ∧ (settingGetRequest r s).sweep = s.sweep ∧
    (settingGetRequest r s).notices = s.notices := by
  unfold settingGetRequest; repeat' split
  all_goals simp

@[simp] theorem unknownItemRequest_frame (r : Request) (s : State) :
    (unknownItemRequest r s).pending = s.pending ∧ (unknownItemRequest r s).rstLow = s.rstLow ∧
    (unknownItemRequest r s).rateHigh = s.rateHigh ∧ (unknownItemRequest r s).txOut = s.txOut ∧
    (unknownItemRequest r s).lanes = s.lanes ∧ (unknownItemRequest r s).intake = s.intake ∧
    (unknownItemRequest r s).table = s.table ∧ (unknownItemRequest r s).profiles = s.profiles ∧
    (unknownItemRequest r s).cond = s.cond ∧ (unknownItemRequest r s).time = s.time ∧
    (unknownItemRequest r s).rounds = s.rounds ∧ (unknownItemRequest r s).free = s.free ∧
    (unknownItemRequest r s).emptyCutoffs = s.emptyCutoffs ∧ (unknownItemRequest r s).ports = s.ports ∧
    (unknownItemRequest r s).drawTimeout = s.drawTimeout ∧ (unknownItemRequest r s).sweep = s.sweep ∧
    (unknownItemRequest r s).notices = s.notices := by
  unfold unknownItemRequest; repeat' split
  all_goals simp

@[simp] theorem noticeEnableRequest_frame (r : Request) (s : State) :
    (noticeEnableRequest r s).pending = s.pending ∧ (noticeEnableRequest r s).rstLow = s.rstLow ∧
    (noticeEnableRequest r s).rateHigh = s.rateHigh ∧ (noticeEnableRequest r s).txOut = s.txOut ∧
    (noticeEnableRequest r s).lanes = s.lanes ∧ (noticeEnableRequest r s).intake = s.intake ∧
    (noticeEnableRequest r s).table = s.table ∧ (noticeEnableRequest r s).profiles = s.profiles ∧
    (noticeEnableRequest r s).cond = s.cond ∧ (noticeEnableRequest r s).time = s.time ∧
    (noticeEnableRequest r s).rounds = s.rounds ∧ (noticeEnableRequest r s).free = s.free ∧
    (noticeEnableRequest r s).emptyCutoffs = s.emptyCutoffs ∧ (noticeEnableRequest r s).ports = s.ports ∧
    (noticeEnableRequest r s).drawTimeout = s.drawTimeout ∧ (noticeEnableRequest r s).sweep = s.sweep := by
  unfold noticeEnableRequest; repeat' split
  all_goals simp

@[simp] theorem noticeClearRequest_frame (r : Request) (s : State) :
    (noticeClearRequest r s).pending = s.pending ∧ (noticeClearRequest r s).rstLow = s.rstLow ∧
    (noticeClearRequest r s).rateHigh = s.rateHigh ∧ (noticeClearRequest r s).txOut = s.txOut ∧
    (noticeClearRequest r s).lanes = s.lanes ∧ (noticeClearRequest r s).intake = s.intake ∧
    (noticeClearRequest r s).table = s.table ∧ (noticeClearRequest r s).profiles = s.profiles ∧
    (noticeClearRequest r s).cond = s.cond ∧ (noticeClearRequest r s).time = s.time ∧
    (noticeClearRequest r s).rounds = s.rounds ∧ (noticeClearRequest r s).free = s.free ∧
    (noticeClearRequest r s).emptyCutoffs = s.emptyCutoffs ∧ (noticeClearRequest r s).ports = s.ports ∧
    (noticeClearRequest r s).drawTimeout = s.drawTimeout ∧ (noticeClearRequest r s).sweep = s.sweep := by
  unfold noticeClearRequest; repeat' split
  all_goals simp

@[simp] theorem setRestart_frame (s : State) (t : Word16) (n l : Nat) :
    (setRestart s t n l).pending = s.pending ∧ (setRestart s t n l).rstLow = s.rstLow ∧
    (setRestart s t n l).rateHigh = s.rateHigh ∧ (setRestart s t n l).txOut = s.txOut ∧
    (setRestart s t n l).lanes = s.lanes ∧ (setRestart s t n l).intake = s.intake ∧
    (setRestart s t n l).table = s.table ∧ (setRestart s t n l).profiles = s.profiles ∧
    (setRestart s t n l).cond = s.cond ∧ (setRestart s t n l).time = s.time ∧
    (setRestart s t n l).rounds = s.rounds ∧ (setRestart s t n l).free = s.free ∧
    (setRestart s t n l).emptyCutoffs = s.emptyCutoffs ∧ (setRestart s t n l).ports = s.ports ∧
    (setRestart s t n l).drawTimeout = s.drawTimeout ∧ (setRestart s t n l).sweep = s.sweep ∧
    (setRestart s t n l).notices = s.notices := by
  simp [setRestart]

@[simp] theorem workSheetRequest_frame (s : State) :
    (workSheetRequest s).pending = s.pending ∧ (workSheetRequest s).rstLow = s.rstLow ∧
    (workSheetRequest s).rateHigh = s.rateHigh ∧ (workSheetRequest s).txOut = s.txOut ∧
    (workSheetRequest s).lanes = s.lanes ∧ (workSheetRequest s).profiles = s.profiles ∧
    (workSheetRequest s).drawTimeout = s.drawTimeout := by
  unfold workSheetRequest; repeat' split
  all_goals simp

@[simp] theorem takeBetween_frame (s : State) (b : Between) :
    (takeBetween s b).pending = s.pending ∧ (takeBetween s b).rstLow = s.rstLow ∧
    (takeBetween s b).rateHigh = s.rateHigh ∧ (takeBetween s b).txOut = s.txOut ∧
    (takeBetween s b).lanes = s.lanes ∧ (takeBetween s b).profiles = s.profiles ∧
    (takeBetween s b).drawTimeout = s.drawTimeout := by
  unfold takeBetween; repeat' split
  all_goals simp

@[simp] theorem takeBetweens_frame (l : List Between) (s : State) :
    (l.foldl takeBetween s).pending = s.pending ∧ (l.foldl takeBetween s).rstLow = s.rstLow ∧
    (l.foldl takeBetween s).rateHigh = s.rateHigh ∧ (l.foldl takeBetween s).txOut = s.txOut ∧
    (l.foldl takeBetween s).lanes = s.lanes ∧ (l.foldl takeBetween s).profiles = s.profiles ∧
    (l.foldl takeBetween s).drawTimeout = s.drawTimeout := by
  induction l generalizing s with
  | nil => simp
  | cons r l ih => simp [ih]

@[simp] theorem applyRecord_frame (s : State) (x : InFlight) (r : BinRecord) (l : List Between) :
    (applyRecord s x r l).pending = s.pending ∧ (applyRecord s x r l).rstLow = s.rstLow ∧
    (applyRecord s x r l).rateHigh = s.rateHigh ∧ (applyRecord s x r l).txOut = s.txOut ∧
    (applyRecord s x r l).lanes = s.lanes ∧ (applyRecord s x r l).profiles = s.profiles ∧
    (applyRecord s x r l).drawTimeout = s.drawTimeout := by
  unfold applyRecord; dsimp only; repeat' split
  all_goals simp

@[simp] theorem applyInFlight_frame (s : State) (x : InFlight) (l : List Between) :
    (applyInFlight s x l).pending = s.pending ∧ (applyInFlight s x l).rstLow = s.rstLow ∧
    (applyInFlight s x l).rateHigh = s.rateHigh ∧ (applyInFlight s x l).txOut = s.txOut ∧
    (applyInFlight s x l).lanes = s.lanes ∧ (applyInFlight s x l).profiles = s.profiles ∧
    (applyInFlight s x l).drawTimeout = s.drawTimeout := by
  unfold applyInFlight; repeat' split
  all_goals simp

@[simp] theorem applyClaim_frame (l : List Between) (s : State) :
    (applyClaim l s).pending = s.pending ∧ (applyClaim l s).rstLow = s.rstLow ∧
    (applyClaim l s).rateHigh = s.rateHigh ∧ (applyClaim l s).txOut = s.txOut ∧ (applyClaim l s).lanes = s.lanes ∧
    (applyClaim l s).profiles = s.profiles ∧ (applyClaim l s).drawTimeout = s.drawTimeout := by
  unfold applyClaim; split <;> simp

@[simp] theorem restartIntakeEnd_frame (s : State) :
    (restartIntakeEnd s).pending = s.pending ∧ (restartIntakeEnd s).rstLow = s.rstLow ∧
    (restartIntakeEnd s).rateHigh = s.rateHigh ∧ (restartIntakeEnd s).txOut = s.txOut ∧
    (restartIntakeEnd s).lanes = s.lanes ∧ (restartIntakeEnd s).profiles = s.profiles ∧
    (restartIntakeEnd s).drawTimeout = s.drawTimeout := by
  unfold restartIntakeEnd; split <;> simp

@[simp] theorem restartSweep_frame (s : State) :
    (restartSweep s).pending = s.pending ∧ (restartSweep s).rstLow = s.rstLow ∧
    (restartSweep s).rateHigh = s.rateHigh ∧ (restartSweep s).txOut = s.txOut ∧ (restartSweep s).lanes = s.lanes ∧
    (restartSweep s).intake = s.intake ∧ (restartSweep s).table = s.table ∧
    (restartSweep s).profiles = s.profiles ∧ (restartSweep s).cond = s.cond ∧ (restartSweep s).time = s.time ∧
    (restartSweep s).rounds = s.rounds ∧ (restartSweep s).free = s.free ∧
    (restartSweep s).emptyCutoffs = s.emptyCutoffs ∧ (restartSweep s).ports = s.ports ∧
    (restartSweep s).drawTimeout = s.drawTimeout ∧ (restartSweep s).link = s.link ∧
    (restartSweep s).notices = s.notices := by
  simp [restartSweep]

@[simp] theorem restartTable_frame (s : State) :
    (restartTable s).pending = s.pending ∧ (restartTable s).rstLow = s.rstLow ∧
    (restartTable s).rateHigh = s.rateHigh ∧ (restartTable s).txOut = s.txOut ∧ (restartTable s).lanes = s.lanes ∧
    (restartTable s).intake = s.intake ∧ (restartTable s).profiles = s.profiles ∧ (restartTable s).cond = s.cond ∧
    (restartTable s).time = s.time ∧ (restartTable s).emptyCutoffs = s.emptyCutoffs ∧
    (restartTable s).drawTimeout = s.drawTimeout ∧ (restartTable s).sweep = s.sweep ∧
    (restartTable s).link = s.link ∧ (restartTable s).notices = s.notices := by
  simp [restartTable]

@[simp] theorem restartConditions_frame (s : State) :
    (restartConditions s).pending = s.pending ∧ (restartConditions s).rstLow = s.rstLow ∧
    (restartConditions s).rateHigh = s.rateHigh ∧ (restartConditions s).txOut = s.txOut ∧
    (restartConditions s).lanes = s.lanes ∧ (restartConditions s).intake = s.intake ∧
    (restartConditions s).table = s.table ∧ (restartConditions s).profiles = s.profiles ∧
    (restartConditions s).time = s.time ∧ (restartConditions s).rounds = s.rounds ∧
    (restartConditions s).free = s.free ∧ (restartConditions s).emptyCutoffs = s.emptyCutoffs ∧
    (restartConditions s).ports = s.ports ∧ (restartConditions s).drawTimeout = s.drawTimeout ∧
    (restartConditions s).sweep = s.sweep ∧ (restartConditions s).link = s.link ∧
    (restartConditions s).notices = s.notices := by
  simp [restartConditions]

@[simp] theorem restartIntake_frame (s : State) :
    (restartIntake s).pending = s.pending ∧ (restartIntake s).rstLow = s.rstLow ∧
    (restartIntake s).rateHigh = s.rateHigh ∧ (restartIntake s).txOut = s.txOut ∧
    (restartIntake s).table = s.table ∧ (restartIntake s).profiles = s.profiles ∧ (restartIntake s).cond = s.cond ∧
    (restartIntake s).time = s.time ∧ (restartIntake s).rounds = s.rounds ∧ (restartIntake s).free = s.free ∧
    (restartIntake s).emptyCutoffs = s.emptyCutoffs ∧ (restartIntake s).ports = s.ports ∧
    (restartIntake s).drawTimeout = s.drawTimeout ∧ (restartIntake s).sweep = s.sweep ∧
    (restartIntake s).link = s.link ∧ (restartIntake s).notices = s.notices := by
  simp [restartIntake]

@[simp] theorem restartLink_frame (s : State) :
    (restartLink s).pending = s.pending ∧ (restartLink s).rstLow = s.rstLow ∧
    (restartLink s).rateHigh = s.rateHigh ∧ (restartLink s).txOut = s.txOut ∧ (restartLink s).intake = s.intake ∧
    (restartLink s).table = s.table ∧ (restartLink s).profiles = s.profiles ∧ (restartLink s).cond = s.cond ∧
    (restartLink s).time = s.time ∧ (restartLink s).rounds = s.rounds ∧ (restartLink s).free = s.free ∧
    (restartLink s).ports = s.ports ∧ (restartLink s).drawTimeout = s.drawTimeout := by
  simp [restartLink]

@[simp] theorem restartStep_frame (s : State) :
    (restartStep s).pending = s.pending ∧ (restartStep s).rstLow = s.rstLow ∧
    (restartStep s).rateHigh = s.rateHigh ∧ (restartStep s).txOut = s.txOut ∧
    (restartStep s).profiles = s.profiles ∧ (restartStep s).drawTimeout = s.drawTimeout := by
  unfold restartStep; split <;> simp

@[simp] theorem restartSteps_frame (n : Nat) (s : State) :
    (restartSteps n s).pending = s.pending ∧ (restartSteps n s).rstLow = s.rstLow ∧
    (restartSteps n s).rateHigh = s.rateHigh ∧ (restartSteps n s).txOut = s.txOut ∧
    (restartSteps n s).profiles = s.profiles ∧ (restartSteps n s).drawTimeout = s.drawTimeout := by
  induction n generalizing s with
  | zero => simp [restartSteps]
  | succ n ih => simp [restartSteps, ih]

@[simp] theorem beginRestart_frame (s : State) :
    (beginRestart s).pending = s.pending ∧ (beginRestart s).rstLow = s.rstLow ∧
    (beginRestart s).rateHigh = s.rateHigh ∧ (beginRestart s).txOut = s.txOut ∧ (beginRestart s).lanes = s.lanes ∧
    (beginRestart s).intake = s.intake ∧ (beginRestart s).table = s.table ∧
    (beginRestart s).profiles = s.profiles ∧ (beginRestart s).cond = s.cond ∧ (beginRestart s).time = s.time ∧
    (beginRestart s).rounds = s.rounds ∧ (beginRestart s).free = s.free ∧
    (beginRestart s).emptyCutoffs = s.emptyCutoffs ∧ (beginRestart s).ports = s.ports ∧
    (beginRestart s).drawTimeout = s.drawTimeout ∧ (beginRestart s).sweep = s.sweep ∧
    (beginRestart s).notices = s.notices := by
  unfold beginRestart; split <;> (try split) <;> simp

end Sys2Proof.Machine
end

