-- ==== Sys2Proof/Laws/Envelope.lean ====
section
/-! SUPPORT. The envelope of a command: what an event and a request's command answer, and one equation per command
that names its work. -/

namespace Sys2Proof.Machine

/-! ## The envelope -/

theorem event_low {s : State} (f : State → State) (h : s.rstLow = true) : event s f = .next s := by simp [event, h]

theorem event_high {s : State} (f : State → State) (h : s.rstLow = false) : event s f = .next (f s) := by
  simp [event, h]

/-- An event answers a next state: the state itself, or its work on it. -/
theorem event_next {s t : State} {f : State → State} (h : event s f = .next t) : t = s ∨ t = f s := by
  simp only [event, Host.Outcome.next.injEq] at h
  split at h
  · exact Or.inl h.symm
  · exact Or.inr h.symm

theorem onRequest_low {s : State} (code : Byte) (f : Request → State → State) (h : s.rstLow = true) :
    onRequest s code f = .next s := event_low _ h

theorem onRequest_taken {s : State} {r : Request} (code : Byte) (f : Request → State → State)
    (h : s.rstLow = false) (hr : s.link.handler = .taken r) (hc : r.code = code) :
    onRequest s code f = .next (f r s) := by
  simp [onRequest, event, h, hr, hc]

/-- A request's command answers a next state: the state itself, or its work on the request taken. -/
theorem onRequest_next {s t : State} {code : Byte} {f : Request → State → State}
    (h : onRequest s code f = .next t) : t = s ∨ ∃ r, s.link.handler = .taken r ∧ r.code = code ∧ t = f r s := by
  rcases event_next h with h | h
  · exact Or.inl h
  · split at h
    · rename_i r hr
      split at h
      · rename_i hc; exact Or.inr ⟨r, hr, hc, h⟩
      · exact Or.inl h
    · exact Or.inl h

theorem onSetting_taken {s : State} {r : Request} (item h l : Byte) (f : Request → Nat → State → State)
    (hs : s.rstLow = false) (hr : s.link.handler = .taken r) (hc : r.code = 0x92#8)
    (ho : r.operands = [item, h, l]) : onSetting s item f = .next (f r (num16 h l) s) := by
  simp only [onSetting]
  rw [onRequest_taken 0x92 _ hs hr hc]
  simp [ho]

/-- A setting's command answers a next state: the state itself, or its work on the request taken. -/
theorem onSetting_next {s t : State} {item : Byte} {f : Request → Nat → State → State}
    (h : onSetting s item f = .next t) : t = s ∨ ∃ r v, s.link.handler = .taken r ∧ t = f r v s := by
  rcases onRequest_next h with h | ⟨r, hr, -, h⟩
  · exact Or.inl h
  · split at h
    · split at h
      · exact Or.inr ⟨r, _, hr, h⟩
      · exact Or.inl h
    · exact Or.inl h

/-! ## The commands -/

theorem exec_laneFrameEnd (lane : Nat) (bytes : List Byte) (s : State) :
    exec (.laneFrameEnd lane bytes) s =
      if h : lane < 4 then event s (endLaneFrame ⟨lane, h⟩ bytes) else .fault .noSuchLane := rfl

theorem exec_frameTake (s : State) : exec .frameTake s = event s takeHead := rfl

theorem exec_applyClaim (between : List Between) (s : State) :
    exec (.applyClaim between) s =
      event s (applyClaim between) := rfl

theorem exec_tick (failed : List (Nat × Word16)) (s : State) : exec (.tick failed) s = event s (tickAll failed) := rfl

theorem exec_epochEnd (s : State) : exec .epochEnd s = event s fun s => s.setTime s.time.endEpoch := rfl

theorem exec_sweepTrigger (s : State) : exec .sweepTrigger s = event s takeTrigger := rfl

theorem exec_minuteChange (s : State) : exec .minuteChange s = event s compareMinute := rfl

theorem exec_cutoffEvent (round : Nat) (s : State) :
    exec (.cutoffEvent round) s =
      if h : round < 64 then event s fun s => takeCutoff s ⟨round, h⟩ else .fault .noSuchRound := rfl

theorem exec_drawTimerExpiry (port : Nat) (s : State) :
    exec (.drawTimerExpiry port) s =
      if h : port < 4 then event s (takeExpiry ⟨port, h⟩) else .fault .noSuchPort := rfl

theorem exec_sweepVisit (s : State) : exec .sweepVisit s = event s sweepVisit := rfl

theorem exec_linkFrameReceived (body : List Byte) (crc : Option Word16) (s : State) :
    exec (.linkFrameReceived body crc) s = event s (receiveFrame body crc) := rfl

theorem exec_linkIdleTimeout (incomplete : Bool) (s : State) :
    exec (.linkIdleTimeout incomplete) s =
      event s (idleTimeout incomplete) := rfl

theorem exec_requestTake (s : State) : exec .requestTake s = event s takeRequest := rfl

theorem exec_unknownRequest (s : State) : exec .unknownRequest s = event s answerUnknown := rfl

theorem exec_uplinkFrameSent (s : State) : exec .uplinkFrameSent s = event s frameSent := rfl

theorem exec_noticeBuild (s : State) : exec .noticeBuild s = event s buildNotice := rfl

theorem exec_hold (s : State) : exec .hold s = onRequest s 0x10 holdRequest := rfl

theorem exec_resume (s : State) : exec .resume s = onRequest s 0x11 resumeRequest := rfl

theorem exec_step (s : State) : exec .step s = onRequest s 0x12 stepRequest := rfl

theorem exec_windowRead (s : State) : exec .windowRead s = onRequest s 0x13 windowReadRequest := rfl

theorem exec_binPut (between : List SheetEvent) (s : State) :
    exec (.binPut between) s = onRequest s 0x20 (binPutRequest between) := rfl

theorem exec_binGet (s : State) : exec .binGet s = onRequest s 0x21 binGetRequest := rfl

theorem exec_binDrop (s : State) : exec .binDrop s = onRequest s 0x22 binDropRequest := rfl

theorem exec_tableRead (s : State) : exec .tableRead s = onRequest s 0x23 tableReadRequest := rfl

theorem exec_profilePut (s : State) : exec .profilePut s = onRequest s 0x30 profilePutRequest := rfl

theorem exec_profileGet (s : State) : exec .profileGet s = onRequest s 0x31 profileGetRequest := rfl

theorem exec_bind (s : State) : exec .bind s = onRequest s 0x40 bindRequest := rfl

theorem exec_unbind (s : State) : exec .unbind s = onRequest s 0x41 unbindRequest := rfl

theorem exec_draw (s : State) : exec .draw s = onRequest s 0x42 drawRequest := rfl

theorem exec_rewind (s : State) : exec .rewind s = onRequest s 0x43 rewindRequest := rfl

theorem exec_release (s : State) : exec .release s = onRequest s 0x44 releaseRequest := rfl

theorem exec_portGet (s : State) : exec .portGet s = onRequest s 0x45 portGetRequest := rfl

theorem exec_clockSet (s : State) : exec .clockSet s = onRequest s 0x50 clockSetRequest := rfl

theorem exec_timeGet (s : State) : exec .timeGet s = onRequest s 0x51 timeGetRequest := rfl

theorem exec_rulePut (s : State) : exec .rulePut s = onRequest s 0x60 rulePutRequest := rfl

theorem exec_ruleGet (s : State) : exec .ruleGet s = onRequest s 0x61 ruleGetRequest := rfl

theorem exec_maskPut (s : State) : exec .maskPut s = onRequest s 0x62 maskPutRequest := rfl

theorem exec_conditionRead (s : State) : exec .conditionRead s = onRequest s 0x63 conditionReadRequest := rfl

theorem exec_roundPut (s : State) : exec .roundPut s = onRequest s 0x70 roundPutRequest := rfl

theorem exec_roundGet (s : State) : exec .roundGet s = onRequest s 0x71 roundGetRequest := rfl

theorem exec_cutoffNow (s : State) : exec .cutoffNow s = onRequest s 0x72 cutoffNowRequest := rfl

theorem exec_sweep (s : State) : exec .sweep s = onRequest s 0x80 sweepRequest := rfl

theorem exec_sweepAbort (s : State) : exec .sweepAbort s = onRequest s 0x81 sweepAbortRequest := rfl

theorem exec_sweepReport (s : State) : exec .sweepReport s = onRequest s 0x82 sweepReportRequest := rfl

theorem exec_status (items : List StatusItem) (s : State) :
    exec (.status items) s = event s (statusWork items) := rfl

theorem exec_counters (s : State) : exec .counters s = onRequest s 0x91 countersRequest := rfl

theorem exec_laneEnable (s : State) : exec .laneEnable s = onSetting s 1 laneEnableSetting := rfl

theorem exec_dedupHold (s : State) : exec .dedupHold s = onSetting s 2 dedupHoldSetting := rfl

theorem exec_epochPeriod (s : State) : exec .epochPeriod s = onSetting s 3 epochPeriodSetting := rfl

theorem exec_sweepInterval (s : State) : exec .sweepInterval s = onSetting s 4 sweepIntervalSetting := rfl

theorem exec_drawIdleLimit (s : State) : exec .drawIdleLimit s = onSetting s 5 drawIdleLimitSetting := rfl

theorem exec_settingGet (s : State) : exec .settingGet s = onRequest s 0x93 settingGetRequest := rfl

theorem exec_noticeEnable (s : State) : exec .noticeEnable s = onRequest s 0x94 noticeEnableRequest := rfl

theorem exec_noticeClear (s : State) : exec .noticeClear s = onRequest s 0x95 noticeClearRequest := rfl

theorem exec_restart (steps : Nat) (s : State) :
    exec (.restart steps) s =
      event s fun s => restartSteps steps (beginRestart s) := rfl

theorem exec_rstAssert (s : State) :
    exec .rstAssert s =
      event s fun s => ((State.reset.setPending s.pending).setRstLow true).setTxOut (cutTx s) := rfl

theorem exec_rstRelease (rateHigh : Bool) (asserted : List Nat) (s : State) :
    exec (.rstRelease rateHigh asserted) s =
      .next (if s.rstLow then released rateHigh asserted s else s) := rfl

theorem exec_badFrameBeforeCrc (cause : BadCause) (s : State) :
    exec (.badFrameBeforeCrc cause) s =
      event s (badFrame cause) := rfl

theorem exec_settingPutUnknownItem (s : State) :
    exec .settingPutUnknownItem s =
      onRequest s 0x92 unknownItemRequest := rfl

end Sys2Proof.Machine
end

