-- ==== Sys2Proof/Laws/Tables.lean ====
section
/-! SUPPORT. The tables of a fixed number of things, and the Bin Table: what a read gives after a write, and that
every write keeps the canonical form. -/

namespace Sys2Proof.Machine

/-! ## Tables of a fixed number of like things -/

@[simp] theorem Vec.get_put_same {α : Type} {n : Nat} (v : Vector α n) (i : Fin n) (x : α) :
    Vec.get (Vec.put v i x) i = x := by simp [Vec.get, Vec.put]

theorem Vec.get_put_of_ne {α : Type} {n : Nat} (v : Vector α n) {i j : Fin n} (x : α) (h : i ≠ j) :
    Vec.get (Vec.put v i x) j = Vec.get v j := by
  simp [Vec.get, Vec.put, Fin.val_ne_of_ne h]

theorem Vec.get_put {α : Type} {n : Nat} (v : Vector α n) (i j : Fin n) (x : α) :
    Vec.get (Vec.put v i x) j = if i = j then x else Vec.get v j := by
  by_cases h : i = j
  · subst h; simp
  · simp [h, Vec.get_put_of_ne]

@[simp] theorem Vec.get_map {α : Type} {n : Nat} (f : α → α) (v : Vector α n) (i : Fin n) :
    Vec.get (Vec.map f v) i = f (Vec.get v i) := by
  simp [Vec.get, Vec.map]

@[simp] theorem Vec.get_ofFn {α : Type} {n : Nat} (f : Fin n → α) (i : Fin n) :
    Vec.get (Vector.ofFn f) i = f i := by simp [Vec.get]

@[simp] theorem Vec.get_replicate {α : Type} {n : Nat} (x : α) (i : Fin n) :
    Vec.get (Vector.replicate n x) i = x := by simp [Vec.get]

theorem Vec.ext {α : Type} {n : Nat} {v w : Vector α n} (h : ∀ i, Vec.get v i = Vec.get w i) : v = w := by
  apply Vector.ext
  intro i hi
  exact h ⟨i, hi⟩

@[simp] theorem Vec.put_get {α : Type} {n : Nat} (v : Vector α n) (i : Fin n) :
    Vec.put v i (Vec.get v i) = v := by
  apply Vec.ext
  intro j
  by_cases h : i = j
  · subst h; simp
  · simp [Vec.get_put_of_ne _ _ h]

/-! ## One round, one port, one lane -/

@[simp] theorem round_setRound_same (s : State) (r : Fin 64) (x : Round) : (s.setRound r x).round r = x := by
  simp [State.round, State.setRound, State.setRounds]

theorem round_setRound_of_ne (s : State) {r q : Fin 64} (x : Round) (h : r ≠ q) :
    (s.setRound r x).round q = s.round q := by
  simp [State.round, State.setRound, State.setRounds, Vec.get_put_of_ne _ _ h]

theorem round_setRound (s : State) (r q : Fin 64) (x : Round) :
    (s.setRound r x).round q = if r = q then x else s.round q := by
  by_cases h : r = q
  · subst h; simp
  · simp [h, round_setRound_of_ne]

@[simp] theorem port_setPort_same (s : State) (p : Fin 4) (x : Port) : (s.setPort p x).port p = x := by
  simp [State.port, State.setPort, State.setPorts]

theorem port_setPort_of_ne (s : State) {p q : Fin 4} (x : Port) (h : p ≠ q) :
    (s.setPort p x).port q = s.port q := by
  simp [State.port, State.setPort, State.setPorts, Vec.get_put_of_ne _ _ h]

@[simp] theorem lane_setLane_same (s : State) (n : Fin 4) (x : Lane) : (s.setLane n x).lane n = x := by
  simp [State.lane, State.setLane, State.setLanes]

theorem lane_setLane_of_ne (s : State) {n m : Fin 4} (x : Lane) (h : n ≠ m) :
    (s.setLane n x).lane m = s.lane m := by
  simp [State.lane, State.setLane, State.setLanes, Vec.get_put_of_ne _ _ h]

/-! ## The Bin Table: reads after writes -/

/-- An index below every listed one is not listed. -/
theorem BinTable.get_of_below (t : BinTable) (i : Nat) (h : ∀ p ∈ t, i < p.1) : t.get i = .empty := by
  induction t with
  | nil => rfl
  | cons p t ih =>
    obtain ⟨k, v⟩ := p
    have hk : i < k := h (k, v) (by simp)
    simp only [BinTable.get, Nat.ne_of_lt hk, if_false]
    exact ih fun q hq => h q (by simp [hq])

/-- A slot that is not EMPTY is listed. -/
theorem BinTable.mem_of_get (t : BinTable) (i : Nat) (h : t.get i ≠ .empty) : (i, t.get i) ∈ t := by
  induction t with
  | nil => exact absurd rfl h
  | cons p t ih =>
    obtain ⟨k, v⟩ := p
    by_cases hik : i = k
    · subst hik; simp [BinTable.get]
    · simp only [BinTable.get, hik, if_false] at h ⊢
      exact List.mem_cons_of_mem _ (ih h)

theorem Slot.eq_empty {v : Slot} (h : v.isEmpty = true) : v = .empty := by cases v <;> simp_all [Slot.isEmpty]

/-- What `put` lists: the written slot and slots that were listed before. -/
theorem BinTable.mem_put (t : BinTable) (i : Nat) (v : Slot) (p : Nat × Slot) (h : p ∈ t.put i v) :
    (p = (i, v) ∧ v.isEmpty = false) ∨ p ∈ t := by
  induction t with
  | nil =>
    simp only [BinTable.put] at h
    split at h <;> simp_all
  | cons q t ih =>
    obtain ⟨k, w⟩ := q
    simp only [BinTable.put] at h
    split at h
    · split at h <;> simp_all
    · split at h
      · split at h
        · right; exact List.mem_cons_of_mem _ h
        · rcases List.mem_cons.mp h with h | h
          · left; simp_all
          · right; exact List.mem_cons_of_mem _ h
      · rcases List.mem_cons.mp h with h | h
        · right; simp [h]
        · rcases ih h with h | h
          · exact Or.inl h
          · right; exact List.mem_cons_of_mem _ h

/-- Every write below 8192 keeps the canonical form. -/
theorem BinTable.put_wf (t : BinTable) (i : Nat) (v : Slot) (h : t.wf) (hi : v.isEmpty = false → i < 8192) :
    (t.put i v).wf := by
  obtain ⟨hp, hb⟩ := h
  constructor
  · induction t with
    | nil =>
      simp only [BinTable.put]
      split <;> simp
    | cons q t ih =>
      obtain ⟨k, w⟩ := q
      rw [List.pairwise_cons] at hp
      simp only [BinTable.put]
      split
      · rename_i hlt
        split
        · exact List.pairwise_cons.mpr hp
        · refine List.pairwise_cons.mpr ⟨?_, List.pairwise_cons.mpr hp⟩
          intro p hm
          rcases List.mem_cons.mp hm with rfl | hm
          · exact hlt
          · exact Nat.lt_trans hlt (hp.1 p hm)
      · split
        · rename_i heq
          subst heq
          split
          · exact hp.2
          · exact List.pairwise_cons.mpr hp
        · rename_i hnlt hne
          refine List.pairwise_cons.mpr ⟨?_, ih hp.2 fun p hm => hb p (by simp [hm])⟩
          intro p hm
          rcases BinTable.mem_put t i v p hm with ⟨rfl, _⟩ | hm
          · simp only; omega
          · exact hp.1 p hm
  · intro p hm
    rcases BinTable.mem_put t i v p hm with ⟨rfl, hv⟩ | hm
    · exact ⟨hi hv, hv⟩
    · exact hb p hm

theorem BinTable.get_put_same (t : BinTable) (i : Nat) (v : Slot) (h : t.wf) : (t.put i v).get i = v := by
  obtain ⟨hp, hb⟩ := h
  induction t with
  | nil =>
    simp only [BinTable.put]
    split
    · rename_i hv; simp [BinTable.get, Slot.eq_empty hv]
    · simp [BinTable.get]
  | cons q t ih =>
    obtain ⟨k, w⟩ := q
    rw [List.pairwise_cons] at hp
    simp only [BinTable.put]
    split
    · rename_i hlt
      split
      · rename_i hv
        rw [Slot.eq_empty hv]
        refine BinTable.get_of_below _ _ fun p hm => ?_
        rcases List.mem_cons.mp hm with rfl | hm
        · exact hlt
        · exact Nat.lt_trans hlt (hp.1 p hm)
      · simp [BinTable.get]
    · split
      · rename_i heq
        subst heq
        split
        · rename_i hv
          rw [Slot.eq_empty hv]
          exact BinTable.get_of_below _ _ fun p hm => hp.1 p hm
        · simp [BinTable.get]
      · rename_i hne
        simp only [BinTable.get, hne, if_false]
        exact ih hp.2 fun p hm => hb p (by simp [hm])

theorem BinTable.get_put_of_ne (t : BinTable) {i j : Nat} (v : Slot) (h : j ≠ i) : (t.put i v).get j = t.get j := by
  induction t with
  | nil =>
    simp only [BinTable.put]
    split <;> simp [BinTable.get, h]
  | cons q t ih =>
    obtain ⟨k, w⟩ := q
    simp only [BinTable.put]
    split
    · split
      · rfl
      · simp [BinTable.get, h]
    · split
      · rename_i heq
        subst heq
        split <;> simp [BinTable.get, h]
      · simp only [BinTable.get, ih]

/-- A slot that is not EMPTY has an index below 8192. -/
theorem BinTable.lt_of_get (t : BinTable) (h : t.wf) (i : Nat) (hi : t.get i ≠ .empty) : i < 8192 :=
  (h.2 _ (BinTable.mem_of_get t i hi)).1

/-- A write over a slot that is not EMPTY keeps the canonical form. -/
theorem BinTable.put_wf_of_get (t : BinTable) (i : Nat) (v : Slot) (h : t.wf) (hi : t.get i ≠ .empty) :
    (t.put i v).wf := BinTable.put_wf t i v h fun _ => BinTable.lt_of_get t h i hi

/-- A storage failure of the listed slots keeps the canonical form. -/
theorem BinTable.fail_wf (l : List (Nat × Word16)) (t : BinTable) (h : t.wf) : (t.fail l).wf := by
  induction l generalizing t with
  | nil => exact h
  | cons p l ih =>
    obtain ⟨i, d⟩ := p
    simp only [BinTable.fail]
    split
    · rename_i hg
      exact ih _ (BinTable.put_wf_of_get t i _ h (by rw [hg]; simp))
    · exact ih _ h

/-! ## Lookup -/

theorem probeSlot_lt (h d : Nat) : probeSlot h d < 8192 := Nat.mod_lt _ (by decide)

/-- What a lookup ends with: a find is a LIVE slot of the bin with a good check code, an error a LIVE slot whose code
fails. -/
theorem lookupFrom_spec (t : BinTable) (b : Word32) (n d : Nat) :
    (∀ i r, lookupFrom t b n d = .found i r → i < 8192 ∧ t.get i = .live r 0 ∧ r.binId = b) ∧
    (∀ i, lookupFrom t b n d = .error i → i < 8192 ∧ ∃ r diff, t.get i = .live r diff ∧ diff ≠ 0) := by
  induction n generalizing d with
  | zero => simp [lookupFrom]
  | succ n ih =>
    simp only [lookupFrom]
    split
    · simp
    · rename_i r diff hg
      split
      · rename_i hd
        refine ⟨by simp, fun i h => ?_⟩
        cases h
        exact ⟨probeSlot_lt _ _, r, diff, hg, hd⟩
      · rename_i hd
        split
        · rename_i hb
          refine ⟨fun i x h => ?_, by simp⟩
          cases h
          refine ⟨probeSlot_lt _ _, ?_, hb⟩
          rw [hg]
          congr
          exact not_not.mp hd
        · exact ih _
    · exact ih _
    · exact ih _

theorem lookup_found {t : BinTable} {b : Word32} {i : Nat} {r : BinRecord} (h : lookup t b = .found i r) :
    i < 8192 ∧ t.get i = .live r 0 ∧ r.binId = b := (lookupFrom_spec t b _ _).1 i r h

theorem lookup_error {t : BinTable} {b : Word32} {i : Nat} (h : lookup t b = .error i) :
    i < 8192 ∧ ∃ r diff, t.get i = .live r diff ∧ diff ≠ 0 := (lookupFrom_spec t b _ _).2 i h

/-- The insertion scan gives an EMPTY or TOMBSTONE slot. -/
theorem usableFrom_spec (t : BinTable) (b : Word32) (n d i : Nat) (h : usableFrom t b n d = some i) :
    i < 8192 ∧ (t.get i = .empty ∨ t.get i = .tombstone) := by
  induction n generalizing d with
  | zero => simp [usableFrom] at h
  | succ n ih =>
    simp only [usableFrom] at h
    split at h
    · rename_i hg; cases h; exact ⟨probeSlot_lt _ _, Or.inl hg⟩
    · rename_i hg; cases h; exact ⟨probeSlot_lt _ _, Or.inr hg⟩
    · exact ih _ h
    · exact ih _ h

theorem usableSlot_spec {t : BinTable} {b : Word32} {i : Nat} (h : usableSlot t b = some i) :
    i < 8192 ∧ (t.get i = .empty ∨ t.get i = .tombstone) := usableFrom_spec t b _ _ i h

end Sys2Proof.Machine
end

