-- ==== Sys2Proof/Laws/Words.lean ====
section
/-! SUPPORT. Bytes put together as words, single bits of a byte, and a state rebuilt from its fields. -/

namespace Sys2Proof.Machine

/-! ## Bytes put together -/

theorem ofNat_num16 (a b : Byte) : BitVec.ofNat 16 (num16 a b) = a ++ b := by
  apply BitVec.eq_of_toNat_eq
  have := a.isLt; have := b.isLt
  rw [BitVec.toNat_append, ← Nat.shiftLeft_add_eq_or_of_lt (by omega)]
  simp [num16, Nat.shiftLeft_eq]; omega

theorem num16_eq_append (a b : Byte) : num16 a b = (a ++ b).toNat := by
  rw [← ofNat_num16]; have := a.isLt; have := b.isLt
  simp [num16]; omega

theorem num16_lt (a b : Byte) : num16 a b < 65536 := by
  have := a.isLt; have := b.isLt
  simp [num16]; omega

theorem word32_eq_append (a b c d : Byte) : word32 a b c d = a ++ b ++ c ++ d := by
  unfold word32
  apply BitVec.eq_of_toNat_eq
  have := a.isLt; have := b.isLt; have := c.isLt; have := d.isLt
  rw [BitVec.toNat_append, BitVec.toNat_append, BitVec.toNat_append, ← Nat.shiftLeft_add_eq_or_of_lt (by omega),
    ← Nat.shiftLeft_add_eq_or_of_lt (by omega), ← Nat.shiftLeft_add_eq_or_of_lt (by omega)]
  simp [Nat.shiftLeft_eq]; omega

theorem be32_word32 (a b c d : Byte) : be32 (word32 a b c d).toNat = [a, b, c, d] := by
  have := a.isLt; have := b.isLt; have := c.isLt; have := d.isLt
  simp only [be32, byte, word32, BitVec.toNat_ofNat, List.cons.injEq, and_true]
  refine ⟨?_, ?_, ?_, ?_⟩ <;> apply BitVec.eq_of_toNat_eq <;> simp only [BitVec.toNat_ofNat] <;> omega

theorem be16_num16 (a b : Byte) : be16 (num16 a b) = [a, b] := by
  have := a.isLt; have := b.isLt
  simp only [be16, byte, num16, List.cons.injEq, and_true]
  refine ⟨?_, ?_⟩ <;> apply BitVec.eq_of_toNat_eq <;> simp only [BitVec.toNat_ofNat] <;> omega

theorem mod_eight (a : Byte) : a.toNat % 8 = 0 ↔ a &&& 7#8 = 0#8 := by
  have h2 := Nat.and_two_pow_sub_one_eq_mod a.toNat 3
  constructor
  · intro h
    apply BitVec.eq_of_toNat_eq
    simp at h2 ⊢
    omega
  · intro h
    have := congrArg BitVec.toNat h
    simp at this h2
    omega

/-! ## The envelope of a response -/

theorem reply_link (s : State) (r : Request) (q : ResultCode) (d : List Byte) :
    (reply s r q d).link =
      { s.link with handler := .idle, uplink := s.link.uplink ++ [responseFrame r.code r.tag q d] } := rfl

/-! ## A state is its fields -/

theorem State.ext_fields {s t : State} (h1 : s.pending = t.pending) (h2 : s.rstLow = t.rstLow)
    (h3 : s.rateHigh = t.rateHigh) (h4 : s.txOut = t.txOut) (h5 : s.lanes = t.lanes) (h6 : s.intake = t.intake)
    (h7 : s.table = t.table) (h8 : s.profiles = t.profiles) (h9 : s.cond = t.cond) (h10 : s.time = t.time)
    (h11 : s.rounds = t.rounds) (h12 : s.free = t.free) (h13 : s.emptyCutoffs = t.emptyCutoffs)
    (h14 : s.ports = t.ports) (h15 : s.drawTimeout = t.drawTimeout) (h16 : s.sweep = t.sweep)
    (h17 : s.link = t.link) (h18 : s.notices = t.notices) : s = t := by
  cases s; cases t; simp_all

/-- The number of a kind names it. -/
theorem kind?_idx (k : Kind) : kind? (byte k.idx.val) = some k := by cases k <;> decide

theorem kind?_of_eq {b : Byte} {k : Kind} (h : k.idx.val = b.toNat) : kind? b = some k := by
  have : b = byte k.idx.val := by apply BitVec.eq_of_toNat_eq; simp [byte, h]
  rw [this, kind?_idx]

theorem index?_of_eq {n : Nat} {b : Byte} {i : Fin n} (h : i.val = b.toNat) : index? n b = some i := by
  have : b.toNat < n := by omega
  simp only [index?, this, dite_true, Option.some.injEq]
  exact Fin.ext h.symm

theorem index?_of_le {n : Nat} {b : Byte} (h : n ≤ b.toNat) : index? n b = none := by
  simp [index?]; omega

end Sys2Proof.Machine
end

