-- ==== Sys2Proof/Laws/Conditions.lean ====
section
/-! SUPPORT. What raising, disposing of and re-examining a condition do: the counts, and the parts of the intake that
they leave alone. -/

namespace Sys2Proof.Machine

theorem dispose_counts (s : State) (k : Kind) (x : Subject) (a : Action) :
    (dispose s k x a).cond.counts = Vec.put s.cond.counts k.idx (Vec.get s.cond.counts k.idx + 1) := by
  cases a <;> simp [dispose, countKind, noteKind, deferKind]

/-- Holding for a kind keeps the queue, the counts, the frame in flight, the window and the dedup hold. -/
@[simp] theorem holdForT_intake (s : State) (k : Kind) :
    (holdForT s k).intake.queue = s.intake.queue ∧ (holdForT s k).intake.accepted = s.intake.accepted ∧
    (holdForT s k).intake.taken = s.intake.taken ∧ (holdForT s k).intake.inFlight = s.intake.inFlight ∧
    (holdForT s k).intake.window = s.intake.window ∧ (holdForT s k).intake.dedupHold = s.intake.dedupHold := by
  unfold holdForT holdAtFrameEnd holdNow
  repeat' split
  all_goals simp

/-- Raising a condition keeps the same. -/
@[simp] theorem raiseT_intake (s : State) (k : Kind) (x : Subject) :
    (raiseT s k x).intake.queue = s.intake.queue ∧ (raiseT s k x).intake.accepted = s.intake.accepted ∧
    (raiseT s k x).intake.taken = s.intake.taken ∧ (raiseT s k x).intake.inFlight = s.intake.inFlight ∧
    (raiseT s k x).intake.window = s.intake.window ∧ (raiseT s k x).intake.dedupHold = s.intake.dedupHold := by
  unfold raiseT; dsimp only
  split <;> simp

/-- Raising a condition counts it once, whatever its action (R67). -/
@[simp] theorem raiseT_counts (s : State) (k : Kind) (x : Subject) :
    (raiseT s k x).cond.counts = Vec.put s.cond.counts k.idx (Vec.get s.cond.counts k.idx + 1) := by
  unfold raiseT; dsimp only
  split <;> simp [dispose_counts]

/-! ## Statuses and holding, as one update each -/

/-- A condition status set, with its subject and since-count (R69, R74). -/
theorem note_eq (n : Notices) (k : Kind) (x : Option Subject) (m : Word32) :
    n.note k x m =
      { n with
        conds := Vec.put n.conds k.idx
          ⟨true, x, if (Vec.get n.conds k.idx).set = true then satAdd32 (Vec.get n.conds k.idx).since m else m⟩,
        list := if n.isSet (.cond k) = true ∨ StatusId.cond k ∈ n.list then n.list else n.list ++ [.cond k] } := by
  unfold Notices.note Notices.raise
  simp only [Notices.isSet, Notices.isEnabled, Notices.owe, Notices.markSet]
  by_cases h1 : (Vec.get n.conds k.idx).set <;> by_cases h3 : StatusId.cond k ∈ n.list <;> simp_all [Vec.put]

/-- Holding for a kind, by the intake state (R11, R71). -/
theorem holdForT_eq (s : State) (k : Kind) :
    holdForT s k =
      if s.intake.state = .stopped then s
      else if s.intake.inFlight ≠ none then s.setIntake { s.intake with holdWaiting := some k }
      else holdNow s (.kind k) := by
  unfold holdForT holdAtFrameEnd State.isStopped
  by_cases h : s.intake.state = .stopped <;> simp [h, Option.isSome_iff_ne_none]

/-- Raising a condition neither stops the part nor takes it out of STOPPED (R11). -/
@[simp] theorem raiseT_stopped (s : State) (k : Kind) (x : Subject) :
    (raiseT s k x).intake.state = .stopped ↔ s.intake.state = .stopped := by
  have e : ∀ a, (dispose s k x a).intake = s.intake := fun a => by simp
  unfold raiseT
  dsimp only
  split
  · rw [holdForT_eq, e]
    by_cases h : s.intake.state = .stopped
    · simp [h]
    · by_cases h2 : s.intake.inFlight = none <;> simp [h, h2, holdNow]
  · rw [e]

/-! ## Re-examination by action (R74) -/

section
variable {s : State} {k : Kind}

theorem reexamine_zero (h : (Vec.get s.cond.deferred k.idx).count = 0) : reexamine s k = s := by
  simp [reexamine, h]

theorem reexamine_defer (h : s.cond.action k = .defer) : reexamine s k = s := by
  unfold reexamine; dsimp only; split
  · rfl
  · simp [h]

theorem reexamine_given (h : (Vec.get s.cond.deferred k.idx).count ≠ 0)
    (ha : s.cond.action k = .record ∨ s.cond.action k = .relay) : reexamine s k = clearDeferred s k := by
  unfold reexamine; dsimp only; rw [if_neg h]
  rcases ha with ha | ha <;> simp [ha]

theorem reexamine_note (h : (Vec.get s.cond.deferred k.idx).count ≠ 0) (ha : s.cond.action k = .note) :
    reexamine s k =
      clearDeferred (noteKind s k (Vec.get s.cond.deferred k.idx).subject (Vec.get s.cond.deferred k.idx).count) k := by
  unfold reexamine; dsimp only; rw [if_neg h]; simp [ha]

theorem reexamine_hold (h : (Vec.get s.cond.deferred k.idx).count ≠ 0) (ha : s.cond.action k = .hold) :
    reexamine s k =
      holdForT (clearDeferred
        (noteKind s k (Vec.get s.cond.deferred k.idx).subject (Vec.get s.cond.deferred k.idx).count) k) k := by
  unfold reexamine; dsimp only; rw [if_neg h]; simp [ha]

end

end Sys2Proof.Machine
end

