-- ==== Sys2Proof/Laws/Intake.lean ====
section
/-! SUPPORT. The end of a frame's processing, the free places of the Uplink Queue, the relay of a frame. -/

namespace Sys2Proof.Machine

/-- A frame that ends in RUN with nothing waiting on its end only leaves the queue. -/
theorem endFrame_run {s : State} (lane : Fin 4) (outcome : Byte) (hs : s.intake.state = .run)
    (hw : s.intake.holdWaiting = none) (h1 : ∀ tag, s.link.handler ≠ .holdWaiting tag)
    (h2 : ∀ tag, s.link.handler ≠ .stepWaiting tag) : endFrame s lane outcome = leaveQueue s := by
  have settle : settleHold (leaveQueue s) none = leaveQueue s := by
    have h : (leaveQueue s).intake.state = .run := hs
    simp only [settleHold, h]
    split <;> simp_all [leaveQueue]
  unfold endFrame
  rw [hw, settle]
  unfold answerWaiting
  split
  · rename_i tag h; exact absurd h (h1 tag)
  · rename_i tag h; exact absurd h (h2 tag)
  · rfl

/-- A frame whose conditions are all RECORD is only counted. -/
theorem disposeFrame_record {s : State} {k : Kind} (f : LaneFrame) (x : Subject) (h : s.cond.action k = .record) :
    disposeFrame s f [(k, x)] = countKind s k := by
  simp [disposeFrame, disposeOfFrame, h, dispose]

theorem disposeFrame_relay {s : State} {k : Kind} (f : LaneFrame) (x : Subject) (h : s.cond.action k = .relay) :
    disposeFrame s f [(k, x)] = offerRelay (countKind s k) f := by
  simp [disposeFrame, disposeOfFrame, h, dispose]

/-- A disposition leaves the queue, the counts, the frame in flight and the window alone, and the table and the
counts of other kinds with them. -/
theorem disposeFrame_intake (s : State) (f : LaneFrame) (l : List (Kind × Subject)) :
    (disposeFrame s f l).intake.queue = s.intake.queue ∧ (disposeFrame s f l).intake.accepted = s.intake.accepted ∧
    (disposeFrame s f l).intake.taken = s.intake.taken ∧ (disposeFrame s f l).intake.inFlight = s.intake.inFlight ∧
    (disposeFrame s f l).intake.window = s.intake.window ∧
    (disposeFrame s f l).intake.dedupHold = s.intake.dedupHold ∧
    (disposeFrame s f l).intake.state = s.intake.state := by
  have one : ∀ (acc : State × Bool) (c : Kind × Subject),
      (disposeOfFrame acc c).1.intake.queue = acc.1.intake.queue ∧
      (disposeOfFrame acc c).1.intake.accepted = acc.1.intake.accepted ∧
      (disposeOfFrame acc c).1.intake.taken = acc.1.intake.taken ∧
      (disposeOfFrame acc c).1.intake.inFlight = acc.1.intake.inFlight ∧
      (disposeOfFrame acc c).1.intake.window = acc.1.intake.window ∧
      (disposeOfFrame acc c).1.intake.dedupHold = acc.1.intake.dedupHold ∧
      (disposeOfFrame acc c).1.intake.state = acc.1.intake.state := by
    intro acc c
    unfold disposeOfFrame holdAtFrameEnd
    dsimp only
    split <;> simp
  have all : ∀ (l : List (Kind × Subject)) (acc : State × Bool),
      (l.foldl disposeOfFrame acc).1.intake.queue = acc.1.intake.queue ∧
      (l.foldl disposeOfFrame acc).1.intake.accepted = acc.1.intake.accepted ∧
      (l.foldl disposeOfFrame acc).1.intake.taken = acc.1.intake.taken ∧
      (l.foldl disposeOfFrame acc).1.intake.inFlight = acc.1.intake.inFlight ∧
      (l.foldl disposeOfFrame acc).1.intake.window = acc.1.intake.window ∧
      (l.foldl disposeOfFrame acc).1.intake.dedupHold = acc.1.intake.dedupHold ∧
      (l.foldl disposeOfFrame acc).1.intake.state = acc.1.intake.state := by
    intro l
    induction l with
    | nil => intro acc; simp
    | cons c l ih =>
      intro acc
      simp only [List.foldl_cons]
      obtain ⟨h1, h2, h3, h4, h5, h6, h7⟩ := ih (disposeOfFrame acc c)
      obtain ⟨g1, g2, g3, g4, g5, g6, g7⟩ := one acc c
      exact ⟨h1.trans g1, h2.trans g2, h3.trans g3, h4.trans g4, h5.trans g5, h6.trans g6, h7.trans g7⟩
  unfold disposeFrame
  dsimp only
  have h := all l (s, false)
  split
  · simpa using h
  · exact h

/-- One condition of a frame is counted once, under every action (R67). -/
theorem disposeFrame_counts (s : State) (f : LaneFrame) (k : Kind) (x : Subject) :
    (disposeFrame s f [(k, x)]).cond.counts =
      Vec.put s.cond.counts k.idx (Vec.get s.cond.counts k.idx + 1) := by
  have h : (disposeOfFrame (s, false) (k, x)).1.cond.counts =
      Vec.put s.cond.counts k.idx (Vec.get s.cond.counts k.idx + 1) := by
    simp only [disposeOfFrame]
    split <;> simp [dispose_counts]
  have form : ∀ acc : State × Bool, (if acc.2 then offerRelay acc.1 f else acc.1).cond = acc.1.cond := by
    intro acc
    split <;> simp
  exact (congrArg CondUnit.counts (form _)).trans h

/-- The frame's end: it leaves the queue and is counted as taken, and nothing is in flight or waits on it (R6). -/
theorem endFrame_intake (s : State) (lane : Fin 4) (outcome : Byte) :
    (endFrame s lane outcome).intake.queue = s.intake.queue.tail ∧
    (endFrame s lane outcome).intake.accepted = s.intake.accepted ∧
    (endFrame s lane outcome).intake.taken = s.intake.taken + 1 ∧
    (endFrame s lane outcome).intake.inFlight = none ∧ (endFrame s lane outcome).intake.holdWaiting = none ∧
    (endFrame s lane outcome).intake.window = s.intake.window ∧
    (endFrame s lane outcome).intake.dedupHold = s.intake.dedupHold := by
  have answers : ∀ u : State, (answerWaiting u lane outcome).intake = u.intake := by
    intro u; unfold answerWaiting; repeat' split
    all_goals simp
  unfold endFrame
  rw [answers]
  unfold settleHold holdNow
  repeat' split
  all_goals simp [leaveQueue]

/-- The end of a frame in whose placement another bin's slot failed, the part being STOPPED since: the frame leaves the
queue and is counted as taken, and intake is STOPPED after it, whatever waited on the end (R12, R59). -/
theorem endFrameThenStop_intake {s : State} (hs : s.intake.state = .stopped) (lane : Fin 4) (outcome : Byte) :
    (endFrameThenStop s lane outcome).intake = { s.intake with
      queue := s.intake.queue.tail, taken := s.intake.taken + 1, inFlight := none, holdWaiting := none } := by
  have answers : ∀ u : State, (answerWaiting u lane outcome).intake = u.intake := by
    intro u; unfold answerWaiting; repeat' split
    all_goals simp
  unfold endFrameThenStop
  rw [answers]
  unfold holdThenStop holdNow
  split <;> simp [leaveQueue, hs]

/-- `n` places are free when the frames, the reserved place and `n` more fit into 64 (R178, R180). -/
theorem le_freePlaces (l : Link) (n : Nat) (h : 0 < n) :
    n ≤ l.freePlaces ↔ l.uplink.length + (if l.handler = .idle then 0 else 1) + n ≤ 64 := by
  unfold Link.freePlaces Link.reserved Config.uplinkCapacity
  cases h : l.handler <;> simp <;> omega

end Sys2Proof.Machine
end

