-- ==== Sys2Proof/Laws/Storage.lean ====
section
/-! SUPPORT. A failed check code: what it does to the table, the counts, the intake, the sweep and the statuses. -/

namespace Sys2Proof.Machine

/-- A sweep that ends early: only the running mark and the end reason are written (R168). -/
theorem endSweep_sweep (s : State) (why : EndReason) :
    (endSweep s why).sweep =
      { s.sweep with
        running := false, endReason := if s.sweep.running = true then some why else s.sweep.endReason } := by
  unfold endSweep
  split
  · rename_i h; simp
  · rename_i h; simp at h; simp [← h]

@[simp] theorem stop_cond (s : State) (i : Nat) :
    (stop s i).cond = { s.cond with storeErrors := s.cond.storeErrors + 1, latestSlot := some i } := by
  simp [stop]

@[simp] theorem stop_intake (s : State) (i : Nat) : (stop s i).intake = { s.intake with state := .stopped } := by
  simp [stop]

@[simp] theorem stop_sweep (s : State) (i : Nat) :
    (stop s i).sweep =
      { s.sweep with
        running := false, endReason := if s.sweep.running = true then some .stopped else s.sweep.endReason } := by
  simp only [stop, setNotices_sweep, endSweep_sweep, setIntake_sweep, setCond_sweep]
  rfl

@[simp] theorem stop_notices (s : State) (i : Nat) : (stop s i).notices = s.notices.raiseStopped i := by simp [stop]

@[simp] theorem storeError_cond (s : State) (i : Nat) :
    (storeError s i).cond = { s.cond with storeErrors := s.cond.storeErrors + 1, latestSlot := some i } := by
  simp [storeError]

@[simp] theorem storeError_intake (s : State) (i : Nat) :
    (storeError s i).intake = { s.intake with state := .stopped } := by
  simp [storeError]

@[simp] theorem storeError_sweep (s : State) (i : Nat) :
    (storeError s i).sweep =
      { s.sweep with
        running := false, endReason := if s.sweep.running = true then some .stopped else s.sweep.endReason } := by
  simp only [storeError, detach_frame, stop_sweep, setTable_sweep]
  rfl

@[simp] theorem storeError_notices (s : State) (i : Nat) :
    (storeError s i).notices = s.notices.raiseStopped i := by simp [storeError]

@[simp] theorem storeError_table (s : State) (i : Nat) : (storeError s i).table = s.table.put i .damaged := by
  simp [storeError]

end Sys2Proof.Machine
end

