-- ==== Sys2Proof/Laws/Reading.lean ====
section
/-! SUPPORT. The evaluation of a reading, step by step: which fields a step leaves alone, and the five ways in which
steps 9 to 13 end. -/

namespace Sys2Proof.Machine

/-- The fields of a record that steps 9 to 14 never write, and with them the counts of readings. -/
def sameParticulars (a b : BinRecord) : Prop :=
  a.binId = b.binId ∧ a.kind = b.kind ∧ a.round = b.round ∧ a.profile = b.profile ∧ a.lastSeq = b.lastSeq ∧
  a.heardEpoch = b.heardEpoch ∧ a.lastLane = b.lastLane ∧ a.lastSignal = b.lastSignal ∧ a.battery = b.battery ∧
  a.silent = b.silent

/-- The three marks of a record. -/
def sameMarks (a b : BinRecord) : Prop := a.heat = b.heat ∧ a.tamper = b.tamper ∧ a.lowBattery = b.lowBattery

theorem makeUrgent_fields (e : Word32) (r : BinRecord) :
    sameParticulars (makeUrgent e r) r ∧ sameMarks (makeUrgent e r) r ∧ (makeUrgent e r).placement = r.placement ∧
    (makeUrgent e r).fill = r.fill ∧ (makeUrgent e r).applied = r.applied ∧ (makeUrgent e r).refused = r.refused ∧
    (makeUrgent e r).state = .urgent := by
  unfold makeUrgent sameParticulars sameMarks
  split
  · rename_i h; simp [h]
  · simp

theorem makeUrgent_crossing (e : Word32) (r : BinRecord) :
    (makeUrgent e r).crossing =
      if r.state = .urgent then r.crossing else if r.crossing.isSome then r.crossing else some e := by
  unfold makeUrgent
  split <;> simp_all

theorem evaluateFill_fields (p : Profile) (e : Word32) (f : Nat) (y : Reading) :
    sameParticulars (evaluateFill p e f y).bin y.bin ∧ sameMarks (evaluateFill p e f y).bin y.bin ∧
    (evaluateFill p e f y).bin.placement = y.bin.placement ∧ (evaluateFill p e f y).bin.fill = some f ∧
    (evaluateFill p e f y).bin.applied = satInc16 y.bin.applied ∧
    (evaluateFill p e f y).bin.refused = y.bin.refused ∧ (evaluateFill p e f y).clearedSilent = y.clearedSilent ∧
    (evaluateFill p e f y).blankedRead = y.blankedRead ∧ (evaluateFill p e f y).stepJump = y.stepJump ∧
    (evaluateFill p e f y).overfill = y.overfill := by
  unfold evaluateFill sameParticulars sameMarks
  dsimp only
  cases y.bin.state <;> dsimp only <;> (try split) <;> simp

/-- The state and the crossing epoch that a fill gives before the overflow check (R53). -/
theorem evaluateFill_state (p : Profile) (e : Word32) (f : Nat) (y : Reading) :
    (evaluateFill p e f y).bin.state =
      (if y.bin.state = .urgent then .urgent
        else if y.bin.state = .due then (if f < p.clear then .normal else .due)
        else if p.raise ≤ f then .due else .normal) ∧
    (evaluateFill p e f y).bin.crossing =
      (if y.bin.state = .urgent then y.bin.crossing
        else if y.bin.state = .due then (if f < p.clear then none else y.bin.crossing)
        else if p.raise ≤ f then some e else none) := by
  unfold evaluateFill
  dsimp only
  cases h : y.bin.state <;> simp <;> split <;> simp

theorem checkOverflow_eq (p : Profile) (e : Word32) (f : Nat) (y : Reading) :
    checkOverflow p e f y =
      if p.overflow ≤ f then { y with bin := makeUrgent e y.bin, overfill := true } else y := rfl

/-- What step 14 leaves alone, and the marks it gathers (R55, R56). -/
theorem applyEvents_fields (p : Profile) (x : InFlight) (y : Reading) :
    sameParticulars (applyEvents p x y).bin y.bin ∧ (applyEvents p x y).bin.placement = y.bin.placement ∧
    (applyEvents p x y).bin.fill = y.bin.fill ∧ (applyEvents p x y).bin.applied = y.bin.applied ∧
    (applyEvents p x y).bin.refused = y.bin.refused ∧
    (applyEvents p x y).bin.heat = (y.bin.heat || x.sensor.heat) ∧
    (applyEvents p x y).bin.tamper = (y.bin.tamper || x.sensor.tamper) ∧
    (applyEvents p x y).bin.lowBattery = (y.bin.lowBattery || x.sensor.lowBattery) ∧
    (applyEvents p x y).clearedSilent = y.clearedSilent ∧ (applyEvents p x y).blankedRead = y.blankedRead ∧
    (applyEvents p x y).stepJump = y.stepJump ∧ (applyEvents p x y).overfill = y.overfill ∧
    (applyEvents p x y).leftDue = y.leftDue := by
  unfold applyEvents makeUrgent sameParticulars
  dsimp only
  split
  · split <;> simp
  · simp

/-- Step 14 changes the state only for an event on a profile that makes events urgent. -/
theorem applyEvents_quiet (p : Profile) (x : InFlight) (y : Reading)
    (h : ((x.sensor.heat || x.sensor.tamper) && p.eventsUrgent) = false) :
    (applyEvents p x y).bin.state = y.bin.state ∧ (applyEvents p x y).bin.crossing = y.bin.crossing ∧
    (applyEvents p x y).bin.blankUntil = y.bin.blankUntil := by
  simp [applyEvents, h]

theorem applyEvents_urgent (p : Profile) (x : InFlight) (y : Reading)
    (h : ((x.sensor.heat || x.sensor.tamper) && p.eventsUrgent) = true) :
    (applyEvents p x y).bin.state = .urgent ∧
    (applyEvents p x y).bin.crossing =
      (if y.bin.state = .urgent then y.bin.crossing
        else if y.bin.crossing.isSome then y.bin.crossing else some x.arrivalEpoch) := by
  simp only [applyEvents, h, if_true]
  exact ⟨(makeUrgent_fields _ _).2.2.2.2.2.2, makeUrgent_crossing _ _⟩

/-! ## The five ways in which steps 9 to 13 end -/

section
variable {p : Profile} {x : InFlight} {y : Reading}

theorem evaluateReading_lift (h : x.sensor.lift = true) :
    evaluateReading p x y = { y with bin := liftRecord p x y.bin } := by simp [evaluateReading, h]

theorem evaluateReading_blanked (h : x.sensor.lift = false) (hb : y.bin.state = .blanked)
    (he : blankingExpired x.arrivalEpoch (y.bin.blankUntil.getD x.arrivalEpoch) = false) :
    evaluateReading p x y = { y with bin := refuseReading y.bin, blankedRead := true } := by
  simp only [evaluateReading, h, Bool.false_eq_true, if_false]
  rw [if_pos ⟨hb, he⟩]

theorem evaluateReading_noEcho (h : x.sensor.lift = false)
    (hb : ¬ (y.bin.state = .blanked ∧
      blankingExpired x.arrivalEpoch (y.bin.blankUntil.getD x.arrivalEpoch) = false))
    (hd : x.sensor.distance = Config.noEcho) :
    evaluateReading p x y =
      { y with bin := if y.bin.state = .unseen then { y.bin with state := .normal } else y.bin } := by
  simp only [evaluateReading, h, Bool.false_eq_true, if_false]
  rw [if_neg hb, if_pos hd]

theorem evaluateReading_jump (h : x.sensor.lift = false)
    (hb : ¬ (y.bin.state = .blanked ∧
      blankingExpired x.arrivalEpoch (y.bin.blankUntil.getD x.arrivalEpoch) = false))
    (hd : x.sensor.distance ≠ Config.noEcho) (hj : stepRefuses p y.bin (fillOf p x.sensor.distance) = true) :
    evaluateReading p x y = { y with bin := refuseReading y.bin, stepJump := true } := by
  simp only [evaluateReading, h, Bool.false_eq_true, if_false]
  rw [if_neg hb, if_neg hd, if_pos hj]

theorem evaluateReading_applied (h : x.sensor.lift = false)
    (hb : ¬ (y.bin.state = .blanked ∧
      blankingExpired x.arrivalEpoch (y.bin.blankUntil.getD x.arrivalEpoch) = false))
    (hd : x.sensor.distance ≠ Config.noEcho) (hj : stepRefuses p y.bin (fillOf p x.sensor.distance) = false) :
    evaluateReading p x y =
      checkOverflow p x.arrivalEpoch (fillOf p x.sensor.distance)
        (evaluateFill p x.arrivalEpoch (fillOf p x.sensor.distance) y) := by
  simp only [evaluateReading, h, Bool.false_eq_true, if_false]
  rw [if_neg hb, if_neg hd, if_neg (by simp [hj])]

/-- The five ways are all. -/
theorem evaluateReading_cases (p : Profile) (x : InFlight) (y : Reading) :
    evaluateReading p x y = { y with bin := liftRecord p x y.bin } ∨
    evaluateReading p x y = { y with bin := refuseReading y.bin, blankedRead := true } ∨
    evaluateReading p x y =
      { y with bin := if y.bin.state = .unseen then { y.bin with state := .normal } else y.bin } ∨
    evaluateReading p x y = { y with bin := refuseReading y.bin, stepJump := true } ∨
    evaluateReading p x y =
      checkOverflow p x.arrivalEpoch (fillOf p x.sensor.distance)
        (evaluateFill p x.arrivalEpoch (fillOf p x.sensor.distance) y) := by
  unfold evaluateReading
  repeat' split
  all_goals simp

end

end Sys2Proof.Machine
end

