-- ==== Sys2Proof/Laws/Sheets.lean ====
section
/-! SUPPORT. The operations of the Sheet Builder: what they do to the table and to the intake. -/

namespace Sys2Proof.Machine

/-! ## The table keeps its canonical form -/

theorem stopped_wf {s : State} {i : Nat} {r : BinRecord} {d : Word16} (h : s.table.wf) (hi : s.table.get i = .live r d)
    (v : Slot) : (s.table.put i v).wf :=
  BinTable.put_wf_of_get _ _ _ h (by rw [hi]; exact fun h => Slot.noConfusion h)

theorem claimUnplaced_wf {s : State} (i : Nat) (h : s.table.wf) : (claimUnplaced s i).1.table.wf := by
  unfold claimUnplaced
  split
  · rename_i r d hg
    split
    · rw [storeError_table]; exact stopped_wf h hg _
    · exact stopped_wf h hg _
  · exact h

theorem addEntry_wf {s : State} (q : Fin 64) (i : Nat) (r : BinRecord) (c : EntryClass) (h : s.table.wf) :
    (addEntry s q i r c).1.table.wf := by
  unfold addEntry
  dsimp only
  split
  · split
    · exact h
    · exact h
  · split
    · split
      · exact claimUnplaced_wf _ h
      · exact h
    · exact h

theorem place_wf {s : State} (i : Nat) (r : BinRecord) (c : EntryClass) (h : s.table.wf) :
    (place s i r c).1.table.wf := by
  unfold place
  repeat' split
  all_goals first
    | exact addEntry_wf _ _ _ _ h
    | exact h

/-! ## The intake is touched by a stop alone -/

/-- The intake of `t` is that of `s`, or stopped. -/
def intakeOrStopped (s t : State) : Prop := t.intake = s.intake ∨ t.intake = { s.intake with state := .stopped }

theorem claimUnplaced_intake (s : State) (i : Nat) : intakeOrStopped s (claimUnplaced s i).1 := by
  unfold claimUnplaced
  split
  · split
    · exact Or.inr (storeError_intake _ _)
    · exact Or.inl rfl
  · exact Or.inl rfl

theorem addEntry_intake (s : State) (q : Fin 64) (i : Nat) (r : BinRecord) (c : EntryClass) :
    intakeOrStopped s (addEntry s q i r c).1 := by
  unfold addEntry
  dsimp only
  repeat' split
  all_goals first
    | exact Or.inl rfl
    | exact claimUnplaced_intake _ _

theorem place_intake (s : State) (i : Nat) (r : BinRecord) (c : EntryClass) :
    intakeOrStopped s (place s i r c).1 := by
  unfold place
  repeat' split
  all_goals first
    | exact Or.inl rfl
    | exact addEntry_intake _ _ _ _ _

/-! ## A Place that stops the part names the slot -/

theorem claimUnplaced_stops {s : State} {i : Nat} (h : s.intake.state ≠ .stopped)
    (stops : (claimUnplaced s i).1.intake.state = .stopped) : (claimUnplaced s i).1.cond.latestSlot = some i := by
  revert stops
  unfold claimUnplaced
  split
  · split
    · intro _; rw [storeError_cond]
    · exact fun stops => absurd stops h
  · exact fun stops => absurd stops h

theorem addEntry_stops {s : State} {q : Fin 64} {i : Nat} {r : BinRecord} {c : EntryClass}
    (h : s.intake.state ≠ .stopped) (stops : (addEntry s q i r c).1.intake.state = .stopped) :
    ∃ j, (addEntry s q i r c).1.cond.latestSlot = some j := by
  revert stops
  unfold addEntry
  dsimp only
  split
  · split
    · exact fun stops => absurd stops h
    · exact fun stops => absurd stops h
  · split
    · rename_i last _
      split
      · exact fun stops => ⟨last.slot, claimUnplaced_stops h stops⟩
      · exact fun stops => absurd stops h
    · exact fun stops => absurd stops h

/-- A Place stops the part only by the claim on a displaced bin's slot, which becomes the latest slot (R59, R75). -/
theorem place_stops {s : State} {i : Nat} {r : BinRecord} {c : EntryClass} (h : s.intake.state ≠ .stopped)
    (stops : (place s i r c).1.intake.state = .stopped) : ∃ j, (place s i r c).1.cond.latestSlot = some j := by
  revert stops
  unfold place
  repeat' split
  all_goals first
    | exact fun stops => absurd stops h
    | exact addEntry_stops h

/-! ## A cut-off and the intake -/

/-- A cut-off leaves the queue, the counts, the frame in flight and the window alone. -/
theorem takeCutoff_intake (s : State) (q : Fin 64) :
    (takeCutoff s q).intake.queue = s.intake.queue ∧ (takeCutoff s q).intake.accepted = s.intake.accepted ∧
    (takeCutoff s q).intake.taken = s.intake.taken ∧ (takeCutoff s q).intake.inFlight = s.intake.inFlight ∧
    (takeCutoff s q).intake.window = s.intake.window ∧ (takeCutoff s q).intake.dedupHold = s.intake.dedupHold := by
  unfold takeCutoff
  split
  · unfold cutoff
    split
    · unfold cutoffFree
      split
      · simp
      · simp
    · unfold cutoffHeld
      simp
  · simp

end Sys2Proof.Machine
end

