-- ==== Sys2Proof/Laws/Cutoff.lean ====
section
/-! SUPPORT. Statuses of a round that an event sets, openings, cut-offs by case (R122–R126, R142). -/

namespace Sys2Proof.Machine

/-! ## The statuses of a round -/

theorem Notices.raise_round_set (n : Notices) (q : Fin 64) (w : RoundStatus) :
    ((n.raise (.round q w)).roundFlag q w).set = true := by
  have marked : ((n.markSet (.round q w)).roundFlag q w).set = true := by
    cases w <;> simp [Notices.markSet, Notices.putRoundFlag, Notices.roundFlag, RoundFlags.put, RoundFlags.get]
  unfold Notices.raise
  repeat' split
  · assumption
  · unfold Notices.owe; split <;> exact marked
  · exact marked

theorem Notices.raise_round_other (n : Notices) (q : Fin 64) {w v : RoundStatus} (h : w ≠ v) :
    (n.raise (.round q w)).roundFlag q v = n.roundFlag q v := by
  have marked : (n.markSet (.round q w)).roundFlag q v = n.roundFlag q v := by
    cases w <;> cases v <;>
      simp_all [Notices.markSet, Notices.putRoundFlag, Notices.roundFlag, RoundFlags.put, RoundFlags.get]
  unfold Notices.raise
  repeat' split
  · rfl
  · unfold Notices.owe; split <;> exact marked
  · exact marked

/-- Which list an event leaves that sets a status (R182). -/
theorem Notices.raise_list (n : Notices) (i : StatusId) :
    (n.raise i).list =
      if n.isSet i = true ∨ n.isEnabled i = false ∨ i ∈ n.list then n.list else n.list ++ [i] := by
  have marked : (n.markSet i).list = n.list := by cases i <;> rfl
  unfold Notices.raise Notices.owe
  by_cases h1 : n.isSet i <;> by_cases h2 : n.isEnabled i <;> by_cases h3 : i ∈ n.list <;> simp [*]

theorem setRound_setRound (s : State) (q : Fin 64) (x y : Round) :
    (s.setRound q x).setRound q y = s.setRound q y := by simp [State.setRound, Vec.put]

theorem setPort_setPort (s : State) (p : Fin 4) (x y : Port) :
    (s.setPort p x).setPort p y = s.setPort p y := by simp [State.setPort, Vec.put]

@[simp] theorem round_raiseRound (s : State) (q u : Fin 64) (w : RoundStatus) :
    (s.raiseRound q w).round u = s.round u := rfl

@[simp] theorem round_setFree (s : State) (n : Nat) (u : Fin 64) : (s.setFree n).round u = s.round u := rfl

@[simp] theorem round_setPort (s : State) (p : Fin 4) (x : Port) (u : Fin 64) :
    (s.setPort p x).round u = s.round u := rfl

@[simp] theorem round_setTable (s : State) (x : BinTable) (u : Fin 64) : (s.setTable x).round u = s.round u := rfl

@[simp] theorem round_setNotices (s : State) (x : Notices) (u : Fin 64) : (s.setNotices x).round u = s.round u := rfl

@[simp] theorem port_setRound (s : State) (q : Fin 64) (x : Round) (p : Fin 4) :
    (s.setRound q x).port p = s.port p := rfl

/-! ## Openings (R142) -/

theorem openSide_entries {s : State} {q : Fin 64} (p : Fin 4) (h : (s.round q).other ≠ []) :
    openSide s p q = (s.setRound q { s.round q with otherState := .opened }).setPort p ⟨.reading q, 0, 0, false⟩ := by
  simp [openSide, h]

theorem openSide_empty {s : State} {q : Fin 64} (p : Fin 4) (h : (s.round q).other = []) :
    openSide s p q =
      ((s.setRound q { s.round q with otherState := .spent }).setPort p ⟨.exhausted q, 0, 0, false⟩).raiseRound q
        .emptied := by
  simp [openSide, h]

/-! ## Cut-offs by case -/

/-- A round with its FILL side sealed (R123). -/
def Round.sealedAt (x : Round) (epoch : Word32) : Round :=
  { x with
    fillSide := x.fillSide.flip, fill := [], otherState := .sealed, other := x.fill, lastCutoff := some epoch }

section
variable {s : State} {q : Fin 64}

theorem cutoff_empty (h : (s.round q).otherState = .free) (hf : (s.round q).fill = [])
    (he : (s.round q).sealEmpty = false) :
    cutoff s q = (s.setEmptyCutoffs (s.emptyCutoffs + 1), .empty) := by
  simp [cutoff, cutoffFree, h, hf, he]

theorem cutoff_sealing (h : (s.round q).otherState = .free)
    (hf : (s.round q).fill ≠ [] ∨ (s.round q).sealEmpty = true) : cutoff s q = sealRound s q := by
  have : ¬ ((s.round q).fill = [] ∧ (s.round q).sealEmpty = false) := by
    rintro ⟨a, b⟩
    rcases hf with hf | hf
    · exact hf a
    · rw [b] at hf; cases hf
  unfold cutoff cutoffFree
  rw [if_pos h, if_neg this]

theorem sealRound_unbound (h : (s.round q).bound = none) :
    sealRound s q =
      ((s.setRound q ((s.round q).sealedAt s.time.epoch)).raiseRound q .ready,
        .sealed (s.round q).fill.length false) := by
  simp only [sealRound, h, Round.sealedAt]

theorem sealRound_opens {p : Fin 4} (h : (s.round q).bound = some p) (hf : (s.round q).fill ≠ []) :
    sealRound s q =
      (((s.setRound q { (s.round q).sealedAt s.time.epoch with otherState := .opened }).setPort p
          ⟨.reading q, 0, 0, false⟩).raiseRound q .ready,
        .sealed (s.round q).fill.length true) := by
  simp only [sealRound, h, Prod.mk.injEq, and_true]
  rw [openSide_entries p (by simpa using hf)]
  simp only [round_raiseRound, round_setRound_same, Round.sealedAt, h]
  apply State.ext_fields <;> simp [State.raiseRound, State.setRound, Vec.put]

theorem sealRound_spends {p : Fin 4} (h : (s.round q).bound = some p) (hf : (s.round q).fill = []) :
    sealRound s q =
      (((s.setRound q { (s.round q).sealedAt s.time.epoch with otherState := .spent }).setPort p
          ⟨.exhausted q, 0, 0, false⟩).setNotices ((s.notices.raise (.round q .ready)).raise (.round q .emptied)),
        .sealed 0 true) := by
  simp only [sealRound, h, hf, List.length_nil, Prod.mk.injEq, and_true]
  rw [openSide_empty p (by simp)]
  simp only [round_raiseRound, round_setRound_same, Round.sealedAt, h, hf]
  apply State.ext_fields <;> simp [State.raiseRound, State.setRound, Vec.put]

/-- A held cut-off writes its round's Held flag and missed count, sets LATE and raises CUTOFF_HELD (R126). -/
theorem cutoff_held (h : (s.round q).otherState ≠ .free) :
    cutoff s q =
      (raiseT ((s.setRound q { s.round q with
          held := true,
          missed := if (s.round q).held = true then satInc16 (s.round q).missed else (s.round q).missed }).raiseRound q
          .late) .cutoffHeld (.round q), .held) := by
  unfold cutoff cutoffHeld
  rw [if_neg h]
  by_cases hh : (s.round q).held = true
  · simp only [hh, if_true]
  · simp only [hh, if_false, Bool.false_eq_true]

theorem cutoff_held_iff : (cutoff s q).2 = .held ↔ (s.round q).otherState ≠ .free := by
  unfold cutoff
  split
  · rename_i h
    simp only [h, ne_eq, not_true_eq_false, iff_false]
    unfold cutoffFree
    split
    · simp
    · cases hb : (s.round q).bound <;> simp [sealRound, hb]
  · rename_i h
    simp [h, cutoffHeld]

end

/-- The rounds after a group T condition are those before it. -/
@[simp] theorem round_raiseT (s : State) (k : Kind) (x : Subject) (u : Fin 64) :
    (raiseT s k x).round u = s.round u := by
  simp [State.round]

/-- A condition raised leaves every status of a round as it is. -/
@[simp] theorem roundFlag_raiseT (s : State) (k : Kind) (x : Subject) (u : Fin 64) (w : RoundStatus) :
    (raiseT s k x).notices.roundFlag u w = s.notices.roundFlag u w := by
  have raised : ∀ (n : Notices) (i : StatusId), (∀ r v, i ≠ .round r v) →
      (n.raise i).rounds = n.rounds := by
    intro n i hi
    have marked : (n.markSet i).rounds = n.rounds := by
      cases i with
      | round r v => exact absurd rfl (hi r v)
      | _ => rfl
    unfold Notices.raise Notices.owe
    repeat' split
    all_goals first
      | rfl
      | exact marked
  have noted : ∀ (n : Notices) (y : Option Subject) (m : Word32), (n.note k y m).rounds = n.rounds := by
    intro n y m; rw [note_eq]
  have held : ∀ (u : State), (holdForT u k).notices.rounds = u.notices.rounds := by
    intro u
    unfold holdForT holdAtFrameEnd holdNow
    repeat' split
    all_goals first
      | rfl
      | (simp only [setNotices_notices, Notices.raiseHeld]; exact raised _ _ (by simp))
  have disposed : ∀ a, (dispose s k x a).notices.rounds = s.notices.rounds := by
    intro a
    cases a <;> simp [dispose, noteKind, noted]
  unfold Notices.roundFlag raiseT
  dsimp only
  split
  · rw [held, disposed]
  · rw [disposed]

/-! ## What falls between two operations of one claim (R107) -/

theorem cutoff_stopped (s : State) (q : Fin 64) :
    (cutoff s q).1.intake.state = .stopped ↔ s.intake.state = .stopped := by
  unfold cutoff
  split
  · have : (cutoffFree s q).1.intake = s.intake := by simp
    rw [this]
  · unfold cutoffHeld
    dsimp only
    rw [raiseT_stopped]
    simp

theorem takeExpiry_stopped (p : Fin 4) (s : State) :
    (takeExpiry p s).intake.state = .stopped ↔ s.intake.state = .stopped := by
  unfold takeExpiry expirePort
  repeat' split
  all_goals simp

/-- An event for the Sheet Builder neither stops the part nor takes it out of STOPPED (R119). -/
@[simp] theorem takeSheetEvent_stopped (s : State) (e : SheetEvent) :
    (takeSheetEvent s e).intake.state = .stopped ↔ s.intake.state = .stopped := by
  unfold takeSheetEvent takeCutoff
  repeat' split
  all_goals simp [cutoff_stopped, takeExpiry_stopped]

@[simp] theorem takeSheetEvents_stopped (l : List SheetEvent) (s : State) :
    (l.foldl takeSheetEvent s).intake.state = .stopped ↔ s.intake.state = .stopped := by
  induction l generalizing s with
  | nil => simp
  | cons e l ih => simp [ih]

end Sys2Proof.Machine
end

