-- ==== Sys2Proof/Laws/Entries.lean ====
section
/-! SUPPORT. Sides as lists: what an insertion, a removal and a mark do to a side, where an unmarked entry is found,
and what Serve, Withdraw and Place can do (R104–R114, R131). -/

namespace Sys2Proof.Machine

/-! ## Insertions -/

theorem insertPlaced_perm (e : Entry) (l : List Entry) : (insertPlaced e l).Perm (e :: l) := by
  induction l with
  | nil => exact List.Perm.refl _
  | cons x l ih =>
    unfold insertPlaced
    split
    · exact List.Perm.refl _
    · exact (ih.cons x).trans (List.Perm.swap e x l)

theorem insertCarried_perm (e : Entry) (l : List Entry) : (insertCarried e l).Perm (e :: l) := by
  induction l with
  | nil => exact List.Perm.refl _
  | cons x l ih =>
    unfold insertCarried
    split
    · exact List.Perm.refl _
    · exact (ih.cons x).trans (List.Perm.swap e x l)

@[simp] theorem length_insertPlaced (e : Entry) (l : List Entry) : (insertPlaced e l).length = l.length + 1 := by
  simpa using (insertPlaced_perm e l).length_eq

@[simp] theorem length_insertCarried (e : Entry) (l : List Entry) : (insertCarried e l).length = l.length + 1 := by
  simpa using (insertCarried_perm e l).length_eq

@[simp] theorem mem_insertPlaced {x e : Entry} {l : List Entry} : x ∈ insertPlaced e l ↔ x = e ∨ x ∈ l := by
  rw [(insertPlaced_perm e l).mem_iff, List.mem_cons]

@[simp] theorem mem_insertCarried {x e : Entry} {l : List Entry} : x ∈ insertCarried e l ↔ x = e ∨ x ∈ l := by
  rw [(insertCarried_perm e l).mem_iff, List.mem_cons]

/-- A new entry keeps the order of its side (R104). -/
theorem insertPlaced_inOrder {e : Entry} {l : List Entry} (he : e.carried = false) (h : inOrder l) :
    inOrder (insertPlaced e l) := by
  unfold inOrder at *
  induction l with
  | nil => simp [insertPlaced]
  | cons x l ih =>
    rw [List.pairwise_cons] at h
    unfold insertPlaced
    split
    · rename_i hr
      refine List.pairwise_cons.mpr ⟨fun y hy => Or.inl ?_, List.pairwise_cons.mpr h⟩
      rcases List.mem_cons.mp hy with rfl | hy
      · exact hr
      · have := h.1 y hy; unfold mayPrecede at this; omega
    · rename_i hr
      refine List.pairwise_cons.mpr ⟨fun y hy => ?_, ih h.2⟩
      rcases mem_insertPlaced.mp hy with rfl | hy
      · unfold mayPrecede
        by_cases hlt : x.cls.rank < y.cls.rank
        · exact Or.inl hlt
        · exact Or.inr ⟨by omega, fun hc => by rw [he] at hc; cases hc⟩
      · exact h.1 y hy

/-- A carried entry keeps the order of its side (R104, R131). -/
theorem insertCarried_inOrder {e : Entry} {l : List Entry} (he : e.carried = true) (h : inOrder l) :
    inOrder (insertCarried e l) := by
  unfold inOrder at *
  induction l with
  | nil => simp [insertCarried]
  | cons x l ih =>
    rw [List.pairwise_cons] at h
    unfold insertCarried
    split
    · rename_i hr
      refine List.pairwise_cons.mpr ⟨fun y hy => ?_, List.pairwise_cons.mpr h⟩
      have hx : mayPrecede e x := by
        rcases hr with hr | ⟨hr, -⟩
        · exact Or.inl hr
        · exact Or.inr ⟨hr, fun _ => he⟩
      rcases List.mem_cons.mp hy with rfl | hy
      · exact hx
      · have hxy := h.1 y hy
        unfold mayPrecede at *
        rcases hx with hx | hx <;> rcases hxy with hxy | hxy
        · left; omega
        · left; omega
        · left; omega
        · exact Or.inr ⟨by omega, fun _ => he⟩
    · rename_i hr
      refine List.pairwise_cons.mpr ⟨fun y hy => ?_, ih h.2⟩
      rcases mem_insertCarried.mp hy with rfl | hy
      · unfold mayPrecede
        by_cases hlt : x.cls.rank < y.cls.rank
        · exact Or.inl hlt
        · have heq : y.cls.rank = x.cls.rank := by
            by_contra hne
            exact hr (Or.inl (by omega))
          refine Or.inr ⟨heq.symm, fun _ => ?_⟩
          cases hc : x.carried with
          | true => rfl
          | false => exact absurd (Or.inr ⟨heq, hc⟩) hr
      · exact h.1 y hy

/-! ## Removal and mark of the unmarked entry of a slot -/

/-- The unmarked entry of a slot that a side holds: the first one. -/
theorem unmarkedAt_split {i : Nat} {l : List Entry} (h : l.any (Entry.unmarkedAt i) = true) :
    ∃ before e after, l = before ++ e :: after ∧ e.unmarkedAt i = true ∧
      (∀ x ∈ before, x.unmarkedAt i = false) ∧ dropEntry i l = before ++ after ∧
      ∀ m, markEntry i m l = before ++ { e with mark := m } :: after := by
  induction l with
  | nil => simp at h
  | cons x l ih =>
    by_cases hx : x.unmarkedAt i = true
    · exact ⟨[], x, l, rfl, hx, by simp, by simp [dropEntry, hx], fun m => by simp [markEntry, hx]⟩
    · rw [List.any_cons, Bool.or_eq_true] at h
      obtain ⟨before, e, after, h1, h2, h3, h4, h5⟩ := ih (h.resolve_left hx)
      refine ⟨x :: before, e, after, by rw [h1]; rfl, h2, ?_, by simp [dropEntry, hx, h4],
        fun m => by simp [markEntry, hx, h5]⟩
      intro y hy
      rcases List.mem_cons.mp hy with rfl | hy
      · simpa using hx
      · exact h3 y hy

/-- An entry put in stands before the first entry of a lower class. -/
theorem insertPlaced_eq (e : Entry) (l : List Entry) :
    insertPlaced e l =
      (l.takeWhile fun x => x.cls.rank ≤ e.cls.rank) ++ e :: l.dropWhile fun x => x.cls.rank ≤ e.cls.rank := by
  induction l with
  | nil => rfl
  | cons x l ih =>
    by_cases h : e.cls.rank < x.cls.rank
    · simp [insertPlaced, h, Nat.not_le.mpr h]
    · simp [insertPlaced, h, Nat.not_lt.mp h, ih]

section Split

variable {i : Nat} {e : Entry} {before after : List Entry} (hb : ∀ x ∈ before, x.unmarkedAt i = false)
  (he : e.unmarkedAt i = true)
include hb he

/-- The first unmarked entry of a slot is the one that goes. -/
theorem dropEntry_split : dropEntry i (before ++ e :: after) = before ++ after := by
  induction before with
  | nil => simp [dropEntry, he]
  | cons x l ih =>
    simp only [List.cons_append, dropEntry, hb x (List.mem_cons_self ..), Bool.false_eq_true, if_false]
    rw [ih fun y hy => hb y (List.mem_cons_of_mem _ hy)]

/-- The first unmarked entry of a slot is the one that is marked. -/
theorem markEntry_split (m : Mark) :
    markEntry i m (before ++ e :: after) = before ++ { e with mark := m } :: after := by
  induction before with
  | nil => simp [markEntry, he]
  | cons x l ih =>
    simp only [List.cons_append, markEntry, hb x (List.mem_cons_self ..), Bool.false_eq_true, if_false]
    rw [ih fun y hy => hb y (List.mem_cons_of_mem _ hy)]

/-- The first unmarked entry of a slot is the one that is upgraded. -/
theorem upgradeSide_split (n : Word32) (r : BinRecord) (c : EntryClass) :
    upgradeSide n i r c (before ++ e :: after) =
      if c.rank < e.cls.rank then some (insertPlaced (e.upgrade n r c) (before ++ after)) else none := by
  have hf : (before ++ e :: after).find? (Entry.unmarkedAt i) = some e := by
    rw [List.find?_append, List.find?_eq_none.mpr fun x hx => by simp [hb x hx]]
    simp [he]
  simp only [upgradeSide, hf, dropEntry_split hb he, EntryClass.lower, decide_eq_true_eq]

end Split

theorem dropEntry_sublist (i : Nat) (l : List Entry) : (dropEntry i l).Sublist l := by
  induction l with
  | nil => exact List.Sublist.refl _
  | cons x l ih =>
    unfold dropEntry
    split
    · exact List.sublist_cons_self x l
    · exact ih.cons_cons x

@[simp] theorem length_markEntry (i : Nat) (m : Mark) (l : List Entry) : (markEntry i m l).length = l.length := by
  induction l with
  | nil => rfl
  | cons x l ih => unfold markEntry; split <;> simp [ih]

theorem dropEntry_inOrder {i : Nat} {l : List Entry} (h : inOrder l) : inOrder (dropEntry i l) :=
  List.Pairwise.sublist (dropEntry_sublist i l) h

theorem markEntry_inOrder {i : Nat} {m : Mark} {l : List Entry} (h : inOrder l) : inOrder (markEntry i m l) := by
  unfold inOrder at *
  induction l with
  | nil => exact h
  | cons x l ih =>
    rw [List.pairwise_cons] at h
    unfold markEntry
    split
    · exact List.pairwise_cons.mpr ⟨fun y hy => h.1 y hy, h.2⟩
    · refine List.pairwise_cons.mpr ⟨fun y hy => ?_, ih h.2⟩
      have : ∀ l : List Entry, (∀ z ∈ l, mayPrecede x z) → ∀ z ∈ markEntry i m l, mayPrecede x z := by
        intro l
        induction l with
        | nil => intro hl z hz; exact hl z hz
        | cons w l ihl =>
          intro hl z hz
          unfold markEntry at hz
          split at hz
          · rcases List.mem_cons.mp hz with rfl | hz
            · exact hl w (List.mem_cons_self ..)
            · exact hl z (List.mem_cons_of_mem _ hz)
          · rcases List.mem_cons.mp hz with rfl | hz
            · exact hl z (List.mem_cons_self ..)
            · exact ihl (fun z hz => hl z (List.mem_cons_of_mem _ hz)) z hz
      exact this l h.1 y hy

/-! ## Where an unmarked entry stands (R106) -/

theorem whereIs_fill {x : Round} {i : Nat} (h : x.whereIs i = some .fill) :
    x.fill.any (Entry.unmarkedAt i) = true := by
  unfold Round.whereIs at h
  split at h
  · assumption
  · split at h <;> simp at h

theorem whereIs_other {x : Round} {i : Nat} (h : x.whereIs i = some .other) :
    x.other.any (Entry.unmarkedAt i) = true := by
  unfold Round.whereIs at h
  split at h
  · simp at h
  · split at h
    · assumption
    · simp at h

theorem whereIs_none {x : Round} {i : Nat} :
    x.whereIs i = none ↔ ∀ e ∈ x.entries, e.unmarkedAt i = false := by
  unfold Round.whereIs Round.entries
  rcases Bool.eq_false_or_eq_true (x.fill.any (Entry.unmarkedAt i)) with hf | hf <;>
    rcases Bool.eq_false_or_eq_true (x.other.any (Entry.unmarkedAt i)) with ho | ho <;>
    simp only [hf, ho, Bool.false_eq_true, if_true, if_false]
  · simp only [reduceCtorEq, List.mem_append, false_iff, not_forall]
    obtain ⟨e, h1, h2⟩ := List.any_eq_true.mp hf
    exact ⟨e, Or.inl h1, by simp [h2]⟩
  · simp only [reduceCtorEq, List.mem_append, false_iff, not_forall]
    obtain ⟨e, h1, h2⟩ := List.any_eq_true.mp hf
    exact ⟨e, Or.inl h1, by simp [h2]⟩
  · simp only [reduceCtorEq, List.mem_append, false_iff, not_forall]
    obtain ⟨e, h1, h2⟩ := List.any_eq_true.mp ho
    exact ⟨e, Or.inr h1, by simp [h2]⟩
  · simp only [true_iff, List.mem_append]
    rintro e (h | h)
    · simpa using (List.any_eq_false.mp hf) e h
    · simpa using (List.any_eq_false.mp ho) e h

/-- A find names a round and the side it stands on. -/
theorem locate_some {v : Vector Round 64} {i : Nat} {q : Fin 64} {w : Where} (h : locate v i = some (q, w)) :
    (Vec.get v q).whereIs i = some w := by
  unfold locate at h
  obtain ⟨l, r, l', -, h2, -⟩ := List.findSome?_eq_some_iff.mp h
  obtain ⟨w', h3, h4⟩ := Option.map_eq_some_iff.mp h2
  cases h4
  exact h3

/-- No find: no side of any round holds an unmarked entry of the slot. -/
theorem locate_none {v : Vector Round 64} {i : Nat} :
    locate v i = none ↔ ∀ q, ∀ e ∈ (Vec.get v q).entries, e.unmarkedAt i = false := by
  unfold locate allRounds
  rw [List.findSome?_eq_none_iff]
  constructor
  · intro h q
    have := h q (List.mem_finRange q)
    rw [Option.map_eq_none_iff] at this
    exact whereIs_none.mp this
  · intro h q _
    rw [Option.map_eq_none_iff]
    exact whereIs_none.mpr (h q)

theorem mem_entries {s : State} {x : Fin 64 × Entry} : x ∈ s.entries ↔ x.2 ∈ (s.round x.1).entries := by
  unfold State.entries allRounds
  simp only [List.mem_flatMap, List.mem_map]
  constructor
  · rintro ⟨q, -, e, he, rfl⟩; exact he
  · intro h; exact ⟨x.1, List.mem_finRange _, x.2, h, rfl⟩

/-! ## Serve and Withdraw (R113, R114) -/

/-- What a Serve or a Withdraw can do: nothing, where no unmarked entry names the slot; one entry removed from a side
that is not being read, with its pool slot freed; one entry marked at its position on a side being read. -/
theorem detach_cases (s : State) (i : Nat) (m : Mark) :
    (locate s.rounds i = none ∧ detach s i m = s) ∨
    (∃ q, locate s.rounds i = some (q, .fill) ∧
      detach s i m =
        (s.setRound q { s.round q with fill := dropEntry i (s.round q).fill }).setFree (s.free + 1)) ∨
    (∃ q, locate s.rounds i = some (q, .other) ∧ (s.round q).otherState.removes = true ∧
      detach s i m =
        (s.setRound q { s.round q with other := dropEntry i (s.round q).other }).setFree (s.free + 1)) ∨
    ∃ q, locate s.rounds i = some (q, .other) ∧ (s.round q).otherState.removes = false ∧
      detach s i m = s.setRound q { s.round q with other := markEntry i m (s.round q).other } := by
  unfold detach
  rcases h : locate s.rounds i with _ | ⟨q, w⟩
  · exact Or.inl ⟨rfl, rfl⟩
  · cases w with
    | fill => exact Or.inr (Or.inl ⟨q, rfl, rfl⟩)
    | other =>
      by_cases hr : (s.round q).otherState.removes = true
      · exact Or.inr (Or.inr (Or.inl ⟨q, rfl, hr, by simp [hr]⟩))
      · exact Or.inr (Or.inr (Or.inr ⟨q, rfl, by simpa using hr, by simp [hr]⟩))

/-- An upgrade takes out the unmarked entry of the slot and puts it in with its new class (R109). -/
theorem upgradeSide_some {n : Word32} {i : Nat} {r : BinRecord} {c : EntryClass} {l l' : List Entry}
    (h : upgradeSide n i r c l = some l') :
    ∃ before e after, l = before ++ e :: after ∧ e.unmarkedAt i = true ∧ c.rank < e.cls.rank ∧
      l' = insertPlaced (e.upgrade n r c) (before ++ after) := by
  unfold upgradeSide at h
  split at h
  · rename_i e he
    split at h
    · rename_i hl
      obtain ⟨before, e', after, h1, h2, h3, h4, -⟩ := unmarkedAt_split (i := i) (l := l)
        (List.any_eq_true.mpr ⟨e, List.mem_of_find?_eq_some he, List.find?_some he⟩)
      have : e' = e := by
        have hf : l.find? (Entry.unmarkedAt i) = some e' := by
          rw [h1, List.find?_append, List.find?_eq_none.mpr (fun x hx => by simp [h3 x hx])]
          simp [h2]
        rw [hf] at he
        exact Option.some.inj he
      subst this
      refine ⟨before, e', after, h1, h2, of_decide_eq_true hl, ?_⟩
      rw [← Option.some.inj h, h4]
    · cases h
  · cases h

/-- What a Place can do: nothing; an upgrade on a side that is not being read; a new entry on the FILL side of the
bin's round, with room or in the place of a displaced last entry (R108–R112). -/
theorem place_cases (s : State) (i : Nat) (r : BinRecord) (c : EntryClass) :
    (place s i r c = (s, .noRound) ∧ r.round = none) ∨
    (∃ u w, place s i r c = (s, .unchanged) ∧ locate s.rounds i = some (u, w)) ∨
    (∃ u l, place s i r c = (s.setRound u { s.round u with fill := l }, .upgraded) ∧
      locate s.rounds i = some (u, .fill) ∧ upgradeSide s.time.epoch i r c (s.round u).fill = some l) ∨
    (∃ u l, place s i r c = (s.setRound u { s.round u with other := l }, .upgraded) ∧
      locate s.rounds i = some (u, .other) ∧ (s.round u).otherState.removes = true ∧
      upgradeSide s.time.epoch i r c (s.round u).other = some l) ∨
    (place s i r c = (s, .failed) ∧ locate s.rounds i = none) ∨
    ∃ q, r.round = some q ∧ locate s.rounds i = none ∧
      (((s.round q).fill.length < (s.round q).cap ∧ 0 < s.free ∧
        place s i r c = ((s.setRound q { s.round q with
          fill := insertPlaced (newEntry s.time.epoch i r c) (s.round q).fill }).setFree (s.free - 1), .added)) ∨
      ∃ front last, (s.round q).cap ≤ (s.round q).fill.length ∧ (s.round q).fill = front ++ [last] ∧
        c.rank < last.cls.rank ∧
        place s i r c = ((claimUnplaced (s.setRound q { s.round q with
          fill := insertPlaced (newEntry s.time.epoch i r c) front,
          displaced := satInc16 (s.round q).displaced }) last.slot).1, .added)) := by
  unfold place
  rcases hr : r.round with _ | q
  · exact Or.inl ⟨rfl, rfl⟩
  · dsimp only
    rcases hl : locate s.rounds i with _ | ⟨u, w⟩
    · dsimp only
      unfold addEntry
      dsimp only
      split
      · rename_i hc
        split
        · rename_i hf
          exact Or.inr (Or.inr (Or.inr (Or.inr (Or.inr ⟨q, rfl, rfl, Or.inl ⟨hc, hf, rfl⟩⟩))))
        · exact Or.inr (Or.inr (Or.inr (Or.inr (Or.inl ⟨rfl, rfl⟩))))
      · rename_i hc
        split
        · rename_i last hlast
          split
          · rename_i hlow
            refine Or.inr (Or.inr (Or.inr (Or.inr (Or.inr ⟨q, rfl, rfl, Or.inr
              ⟨(s.round q).fill.dropLast, last, by omega, ?_, of_decide_eq_true hlow, rfl⟩⟩))))
            exact (List.dropLast_append_getLast? last hlast).symm
          · exact Or.inr (Or.inr (Or.inr (Or.inr (Or.inl ⟨rfl, rfl⟩))))
        · exact Or.inr (Or.inr (Or.inr (Or.inr (Or.inl ⟨rfl, rfl⟩))))
    · cases w with
      | fill =>
        dsimp only
        split
        · rename_i l h; exact Or.inr (Or.inr (Or.inl ⟨u, l, rfl, rfl, h⟩))
        · exact Or.inr (Or.inl ⟨u, .fill, rfl, rfl⟩)
      | other =>
        dsimp only
        split
        · rename_i hrm
          split
          · rename_i l h; exact Or.inr (Or.inr (Or.inr (Or.inl ⟨u, l, rfl, rfl, hrm, h⟩)))
          · exact Or.inr (Or.inl ⟨u, .other, rfl, rfl⟩)
        · exact Or.inr (Or.inl ⟨u, .other, rfl, rfl⟩)

end Sys2Proof.Machine
end

