-- ==== Sys2Proof/Laws/PerInstr.lean ====
section
/-! SUPPORT. The per-command family OperandBounds: which operands are well formed, command by command. -/

namespace Sys2Proof.Laws.OperandBounds

/-- An event for the Sheet Builder names a round or a port the part has. -/
def EventInBounds : SheetEvent → Prop
  | .cutoff round => round < 64
  | .expiry port => port < 4

/-- What falls between the two operations of an apply claim names a round and a port the part has. -/
def InBounds : Between → Prop
  | .event e => EventInBounds e
  | .requestTake => True
  | .sheetRequest => True
  | .statusRead _ => True

/-- A command is well formed exactly when it names lanes, rounds, ports and slots the part has, and its event's
lengths and counts are ones the event can have; a command without such operands always is. -/
def Statement (i : Instr) : Prop :=
  i.wellFormed = true ↔
    match i with
    | .laneFrameEnd lane _ => lane < 4
    | .applyClaim between => ∀ b ∈ between, InBounds b
    | .binPut between => ∀ e ∈ between, EventInBounds e
    | .tick failed => ∀ x ∈ failed, x.1 < 8192
    | .cutoffEvent round => round < 64
    | .drawTimerExpiry port => port < 4
    | .linkFrameReceived body _ => body.length ≤ 600
    | .restart steps => steps ≤ 7
    | .rstRelease _ asserted => ∀ n ∈ asserted, n < 4
    | .badFrameBeforeCrc (.typeByte b) => b ≠ 1#8
    | .badFrameBeforeCrc (.bodyLength n) => 600 < n ∧ n < 65536
    | _ => True

/-- A law whose two sides both hold. -/
theorem always {b : Bool} {p : Prop} (hb : b = true) (hp : p) : b = true ↔ p := ⟨fun _ => hp, fun _ => hb⟩

theorem laneFrameEnd (lane : Nat) (bytes : List Byte) : Statement (.laneFrameEnd lane bytes) := by
  simp [Statement, Instr.wellFormed]

theorem frameTake : Statement .frameTake := always rfl trivial

theorem event_inBounds (e : SheetEvent) : e.wellFormed = true ↔ EventInBounds e := by
  cases e <;> simp [SheetEvent.wellFormed, EventInBounds]

theorem between_inBounds (b : Between) : b.wellFormed = true ↔ InBounds b := by
  cases b <;> simp [Between.wellFormed, InBounds, event_inBounds]

theorem applyClaim (between : List Between) : Statement (.applyClaim between) := by
  simp [Statement, Instr.wellFormed, between_inBounds]

theorem tick (failed : List (Nat × Word16)) : Statement (.tick failed) := by
  simp only [Statement, Instr.wellFormed, List.all_eq_true, decide_eq_true_eq]
  rfl

theorem epochEnd : Statement .epochEnd := always rfl trivial

theorem sweepTrigger : Statement .sweepTrigger := always rfl trivial

theorem minuteChange : Statement .minuteChange := always rfl trivial

theorem cutoffEvent (round : Nat) : Statement (.cutoffEvent round) := by
  simp [Statement, Instr.wellFormed]

theorem drawTimerExpiry (port : Nat) : Statement (.drawTimerExpiry port) := by
  simp [Statement, Instr.wellFormed]

theorem sweepVisit : Statement .sweepVisit := always rfl trivial

theorem linkFrameReceived (body : List Byte) (crc : Option Word16) :
    Statement (.linkFrameReceived body crc) := decide_eq_true_iff

theorem linkIdleTimeout (incomplete : Bool) : Statement (.linkIdleTimeout incomplete) := always rfl trivial

theorem requestTake : Statement .requestTake := always rfl trivial

theorem unknownRequest : Statement .unknownRequest := always rfl trivial

theorem uplinkFrameSent : Statement .uplinkFrameSent := always rfl trivial

theorem noticeBuild : Statement .noticeBuild := always rfl trivial

theorem hold : Statement .hold := always rfl trivial

theorem resume : Statement .resume := always rfl trivial

theorem step : Statement .step := always rfl trivial

theorem windowRead : Statement .windowRead := always rfl trivial

theorem binPut (between : List SheetEvent) : Statement (.binPut between) := by
  simp [Statement, Instr.wellFormed, event_inBounds]

theorem binGet : Statement .binGet := always rfl trivial

theorem binDrop : Statement .binDrop := always rfl trivial

theorem tableRead : Statement .tableRead := always rfl trivial

theorem profilePut : Statement .profilePut := always rfl trivial

theorem profileGet : Statement .profileGet := always rfl trivial

theorem bind : Statement .bind := always rfl trivial

theorem unbind : Statement .unbind := always rfl trivial

theorem draw : Statement .draw := always rfl trivial

theorem rewind : Statement .rewind := always rfl trivial

theorem release : Statement .release := always rfl trivial

theorem portGet : Statement .portGet := always rfl trivial

theorem clockSet : Statement .clockSet := always rfl trivial

theorem timeGet : Statement .timeGet := always rfl trivial

theorem rulePut : Statement .rulePut := always rfl trivial

theorem ruleGet : Statement .ruleGet := always rfl trivial

theorem maskPut : Statement .maskPut := always rfl trivial

theorem conditionRead : Statement .conditionRead := always rfl trivial

theorem roundPut : Statement .roundPut := always rfl trivial

theorem roundGet : Statement .roundGet := always rfl trivial

theorem cutoffNow : Statement .cutoffNow := always rfl trivial

theorem sweep : Statement .sweep := always rfl trivial

theorem sweepAbort : Statement .sweepAbort := always rfl trivial

theorem sweepReport : Statement .sweepReport := always rfl trivial

theorem status (items : List StatusItem) : Statement (.status items) := always rfl trivial

theorem counters : Statement .counters := always rfl trivial

theorem laneEnable : Statement .laneEnable := always rfl trivial

theorem dedupHold : Statement .dedupHold := always rfl trivial

theorem epochPeriod : Statement .epochPeriod := always rfl trivial

theorem sweepInterval : Statement .sweepInterval := always rfl trivial

theorem drawIdleLimit : Statement .drawIdleLimit := always rfl trivial

theorem settingGet : Statement .settingGet := always rfl trivial

theorem noticeEnable : Statement .noticeEnable := always rfl trivial

theorem noticeClear : Statement .noticeClear := always rfl trivial

theorem restart (steps : Nat) : Statement (.restart steps) := by
  simp [Statement, Instr.wellFormed]

theorem rstAssert : Statement .rstAssert := always rfl trivial

theorem rstRelease (rateHigh : Bool) (asserted : List Nat) : Statement (.rstRelease rateHigh asserted) := by
  simp [Statement, Instr.wellFormed]

theorem badFrameBeforeCrc (cause : BadCause) : Statement (.badFrameBeforeCrc cause) := by
  cases cause with
  | typeByte b => simp [Statement, Instr.wellFormed, BadCause.wellFormed]
  | bodyLength n =>
    simp only [Statement, Instr.wellFormed, BadCause.wellFormed, Bool.and_eq_true, decide_eq_true_eq]
    rfl
  | missingStop => exact always rfl trivial

theorem settingPutUnknownItem : Statement .settingPutUnknownItem := always rfl trivial

end Sys2Proof.Laws.OperandBounds
end

