-- ==== Sys2Proof/Laws/Probing.lean ====
section
/-! SUPPORT. Where a lookup and an insertion scan end in the probe window, as the laws of the probe chains need it
(R26–R28). -/

namespace Sys2Proof.Machine

/-- A find stands at a probe distance below 24 with no EMPTY slot before it. -/
theorem lookupFrom_found_at (t : BinTable) (b : Word32) (i : Nat) (r : BinRecord) : ∀ n d : Nat,
    lookupFrom t b n d = .found i r → (∀ j, j < d → t.get (probeSlot (home b) j) ≠ .empty) →
    ∃ k, k < d + n ∧ i = probeSlot (home b) k ∧ ∀ j, j < k → t.get (probeSlot (home b) j) ≠ .empty := by
  intro n
  induction n with
  | zero => intro d h; simp [lookupFrom] at h
  | succ n ih =>
    intro d h hb
    have next (hd : t.get (probeSlot (home b) d) ≠ .empty) (h : lookupFrom t b n (d + 1) = .found i r) :
        ∃ k, k < d + (n + 1) ∧ i = probeSlot (home b) k ∧ ∀ j, j < k → t.get (probeSlot (home b) j) ≠ .empty := by
      obtain ⟨k, hk, e, he⟩ := ih (d + 1) h fun j hj => by
        rcases Nat.lt_succ_iff_lt_or_eq.mp hj with h' | rfl
        · exact hb j h'
        · exact hd
      exact ⟨k, by omega, e, he⟩
    simp only [lookupFrom] at h
    split at h
    · cases h
    · rename_i x c hg
      split at h
      · cases h
      · split at h
        · injection h with h1 h2
          exact ⟨d, by omega, h1.symm, hb⟩
        · exact next (by rw [hg]; simp) h
    · rename_i hg; exact next (by rw [hg]; simp) h
    · rename_i hg; exact next (by rw [hg]; simp) h

theorem lookup_found_at {t : BinTable} {b : Word32} {i : Nat} {r : BinRecord} (h : lookup t b = .found i r) :
    ∃ k, k < 24 ∧ i = probeSlot (home b) k ∧ ∀ j, j < k → t.get (probeSlot (home b) j) ≠ .empty := by
  obtain ⟨k, hk, e⟩ := lookupFrom_found_at t b i r _ 0 h (by simp)
  exact ⟨k, by simpa [Config.probeWindow] using hk, e⟩

/-- A lookup that ends with no find has met no LIVE slot of the bin before the first EMPTY slot. -/
theorem lookupFrom_notFound (t : BinTable) (b : Word32) : ∀ n d : Nat, lookupFrom t b n d = .notFound →
    ∀ k, d ≤ k → k < d + n → (∀ j, j < k → t.get (probeSlot (home b) j) ≠ .empty) →
    ∀ r c, t.get (probeSlot (home b) k) = .live r c → r.binId ≠ b := by
  intro n
  induction n with
  | zero => intro d _ k h1 h2; omega
  | succ n ih =>
    intro d h k h1 h2 he r c hk
    simp only [lookupFrom] at h
    rcases Nat.eq_or_lt_of_le h1 with rfl | h3
    · simp only [hk] at h
      split at h
      · cases h
      · split at h
        · cases h
        · assumption
    · split at h
      · rename_i hg; exact absurd hg (he d h3)
      · split at h
        · cases h
        · split at h
          · cases h
          · exact ih _ h k h3 (by omega) he r c hk
      · exact ih _ h k h3 (by omega) he r c hk
      · exact ih _ h k h3 (by omega) he r c hk

theorem lookup_notFound {t : BinTable} {b : Word32} (h : lookup t b = .notFound) {k : Nat} (hk : k < 24)
    (he : ∀ j, j < k → t.get (probeSlot (home b) j) ≠ .empty) {r : BinRecord} {c : Word16}
    (hg : t.get (probeSlot (home b) k) = .live r c) : r.binId ≠ b :=
  lookupFrom_notFound t b _ 0 h k (by omega) (by simpa [Config.probeWindow] using hk) he r c hg

/-- The insertion scan ends at a probe distance below 24 with no EMPTY slot before it. -/
theorem usableFrom_at (t : BinTable) (b : Word32) (i : Nat) : ∀ n d : Nat, usableFrom t b n d = some i →
    (∀ j, j < d → t.get (probeSlot (home b) j) ≠ .empty) →
    ∃ k, k < d + n ∧ i = probeSlot (home b) k ∧ ∀ j, j < k → t.get (probeSlot (home b) j) ≠ .empty := by
  intro n
  induction n with
  | zero => intro d h; simp [usableFrom] at h
  | succ n ih =>
    intro d h hb
    have next (hd : t.get (probeSlot (home b) d) ≠ .empty) (h : usableFrom t b n (d + 1) = some i) :
        ∃ k, k < d + (n + 1) ∧ i = probeSlot (home b) k ∧ ∀ j, j < k → t.get (probeSlot (home b) j) ≠ .empty := by
      obtain ⟨k, hk, e, he⟩ := ih (d + 1) h fun j hj => by
        rcases Nat.lt_succ_iff_lt_or_eq.mp hj with h' | rfl
        · exact hb j h'
        · exact hd
      exact ⟨k, by omega, e, he⟩
    simp only [usableFrom] at h
    split at h
    · exact ⟨d, by omega, (Option.some.inj h).symm, hb⟩
    · exact ⟨d, by omega, (Option.some.inj h).symm, hb⟩
    · rename_i hg; exact next (by rw [hg]; simp) h
    · rename_i hg; exact next (by rw [hg]; simp) h

theorem usableSlot_at {t : BinTable} {b : Word32} {i : Nat} (h : usableSlot t b = some i) :
    ∃ k, k < 24 ∧ i = probeSlot (home b) k ∧ ∀ j, j < k → t.get (probeSlot (home b) j) ≠ .empty := by
  obtain ⟨k, hk, e⟩ := usableFrom_at t b i _ 0 h (by simp)
  exact ⟨k, by simpa [Config.probeWindow] using hk, e⟩

end Sys2Proof.Machine
end

