-- ==== Sys2Proof/Laws/Release.lean ====
section
/-! SUPPORT. The Sheet Builder's claims on other bins, carry-over and the reading of a side, case by case (R59, R131,
R132, R144, R145). -/

namespace Sys2Proof.Machine

theorem setRound_self (s : State) (q : Fin 64) : s.setRound q (s.round q) = s := by
  simp [State.setRound, State.round]

/-! ## A claim on another bin's slot (R59) -/

theorem claimUnplaced_good {s : State} {i : Nat} {r : BinRecord} (h : s.table.get i = .live r 0) :
    claimUnplaced s i = (s.writeRecord i { r with placement := .unplaced }, true) := by
  simp [claimUnplaced, h]

theorem claimUnplaced_bad {s : State} {i : Nat} {r : BinRecord} {d : Word16} (h : s.table.get i = .live r d)
    (hd : d ≠ 0) : claimUnplaced s i = (storeError s i, false) := by
  simp only [claimUnplaced, h]
  rw [if_pos hd]

/-- A claim for a displaced or dropped bin writes UNPLACED, finds a failed check code, or finds no record. -/
theorem claimUnplaced_cases (s : State) (i : Nat) :
    (∃ r, s.table.get i = .live r 0 ∧
      claimUnplaced s i = (s.writeRecord i { r with placement := .unplaced }, true)) ∨
    (∃ r d, s.table.get i = .live r d ∧ d ≠ 0 ∧ claimUnplaced s i = (storeError s i, false)) ∨
    ((∀ r d, s.table.get i ≠ .live r d) ∧ claimUnplaced s i = (s, true)) := by
  cases h : s.table.get i with
  | live r d =>
    by_cases hd : d = 0
    · subst hd; exact .inl ⟨r, rfl, claimUnplaced_good h⟩
    · exact .inr (.inl ⟨r, d, rfl, hd, claimUnplaced_bad h hd⟩)
  | _ => exact .inr (.inr ⟨by simp, by simp [claimUnplaced, h]⟩)

/-! ## Carry-over (R131, R132) -/

section
variable {s : State} {q : Fin 64} {g : Figures} {e : Entry}

theorem carryOne_room (h : (s.round q).fill.length < (s.round q).cap) :
    carryOne q (s, g) e =
      (s.setRound q { s.round q with fill := insertCarried { e with carried := true } (s.round q).fill },
        { g with carried := g.carried + 1 }) := by
  simp only [carryOne]
  rw [if_pos h]

theorem carryOne_displaces {last : Entry} (h : ¬ (s.round q).fill.length < (s.round q).cap)
    (hl : (s.round q).fill.getLast? = some last) (hc : last.cls.lower e.cls = true) :
    carryOne q (s, g) e =
      ((claimUnplaced ((s.setRound q { s.round q with
          fill := insertCarried { e with carried := true } (s.round q).fill.dropLast,
          displaced := satInc16 (s.round q).displaced }).setFree (s.free + 1)) last.slot).1,
        { g with carried := g.carried + 1, displaced := g.displaced + 1 }) := by
  simp only [carryOne]
  rw [if_neg h]
  simp [hl, hc]

theorem carryOne_drops (h : ¬ (s.round q).fill.length < (s.round q).cap)
    (hc : ∀ last, (s.round q).fill.getLast? = some last → last.cls.lower e.cls = false) :
    carryOne q (s, g) e =
      (if (claimUnplaced (s.setFree (s.free + 1)) e.slot).2 then
          raiseT (claimUnplaced (s.setFree (s.free + 1)) e.slot).1 .placeFail (.bin e.binId)
        else (claimUnplaced (s.setFree (s.free + 1)) e.slot).1,
        { g with dropped := g.dropped + 1 }) := by
  simp only [carryOne]
  rw [if_neg h]
  cases hl : (s.round q).fill.getLast? with
  | none => rfl
  | some last => simp [hc last hl]

end

/-- With room for all of them, the entries of a released side all stand on the FILL side. -/
theorem carryAll_room (q : Fin 64) (l : List Entry) : ∀ (s : State) (g : Figures),
    (s.round q).fill.length + l.length ≤ (s.round q).cap →
    l.foldl (carryOne q) (s, g) =
      (s.setRound q { s.round q with
        fill := l.foldl (fun l e => insertCarried { e with carried := true } l) (s.round q).fill },
        { g with carried := g.carried + l.length }) := by
  induction l with
  | nil => intro s g _; exact Prod.ext (setRound_self s q).symm rfl
  | cons e l ih =>
    intro s g h
    simp only [List.length_cons] at h
    have hins : (insertCarried { e with carried := true } (s.round q).fill).length = (s.round q).fill.length + 1 :=
      (insertCarried_perm _ _).length_eq
    rw [List.foldl_cons, carryOne_room (by omega), ih _ _ (by simp [hins]; omega)]
    simp [setRound_setRound]
    omega

/-! ## The reading of a side (R144, R145) -/

/-- The current fill that a DRAW gives for an entry, when no check code fails (R144). -/
def fillNow (t : BinTable) (e : Entry) : Option Nat :=
  if e.marked then none
  else
    match t.get e.slot with
    | .live r _ => r.fill
    | _ => none

/-- Entries whose unmarked members' slots verify are all read. -/
theorem readEntries_verified (t : BinTable) (l : List Entry)
    (h : ∀ e ∈ l, e.mark = .none → ∀ r d, t.get e.slot = .live r d → d = 0) :
    readEntries t l = .entries (l.flatMap fun e => e.bytes (fillNow t e)) := by
  induction l with
  | nil => rfl
  | cons e l ih =>
    have ih := ih fun e he => h e (List.mem_cons_of_mem _ he)
    have h0 := h e (List.mem_cons_self ..)
    simp only [readEntries, ih, DrawRead.prepend, List.flatMap_cons, fillNow, Entry.marked]
    by_cases hm : e.mark = .none
    · simp only [hm, ne_eq, not_true_eq_false, decide_false, Bool.false_eq_true, if_false]
      cases hg : t.get e.slot with
      | live r d => simp [h0 hm r d hg]
      | _ => simp
    · simp [hm]

/-- The reading ends at the first unmarked entry whose slot fails its check. -/
theorem readEntries_fails (t : BinTable) (before after : List Entry) (e : Entry) (r : BinRecord) (d : Word16)
    (h : ∀ e ∈ before, e.mark = .none → ∀ r d, t.get e.slot = .live r d → d = 0)
    (he : e.mark = .none) (hg : t.get e.slot = .live r d) (hd : d ≠ 0) :
    readEntries t (before ++ e :: after) = .error e.slot := by
  induction before with
  | nil =>
    simp only [List.nil_append, readEntries, Entry.marked, he, hg]
    rw [if_neg (by simp), if_pos hd]
  | cons y l ih =>
    have ih := ih fun e he => h e (List.mem_cons_of_mem _ he)
    have h0 := h y (List.mem_cons_self ..)
    simp only [List.cons_append, readEntries, ih, DrawRead.prepend, Entry.marked]
    by_cases hm : y.mark = .none
    · cases hg : t.get y.slot with
      | live r d => simp [hm, h0 hm r d hg]
      | _ => simp [hm]
    · simp [hm]

end Sys2Proof.Machine
end

