-- ==== Sys2Proof/Laws/Restart.lean ====
section
/-! SUPPORT. The steps of a RESTART do not ask which step is in hand: each commutes with the handler's progress, and the
apply claim of step 1 with the link, so that a whole RESTART is its six pieces of work in a row and the answer. -/

namespace Sys2Proof.Machine

/-- `s` with its request handler replaced. -/
def State.withHandler (h : Handler) (s : State) : State := s.setLink { s.link with handler := h }

/-! ## What does not look at the link -/

section Link

variable (s : State) (l : Link)

theorem dispose_setLink (k : Kind) (x : Subject) (a : Action) :
    dispose (s.setLink l) k x a = (dispose s k x a).setLink l := by
  cases a <;> rfl

theorem holdAtFrameEnd_setLink (k : Kind) : holdAtFrameEnd (s.setLink l) k = (holdAtFrameEnd s k).setLink l := by
  rfl

theorem disposeOfFrame_setLink (b : Bool) (c : Kind × Subject) :
    disposeOfFrame (s.setLink l, b) c = ((disposeOfFrame (s, b) c).1.setLink l, (disposeOfFrame (s, b) c).2) := by
  unfold disposeOfFrame
  dsimp only [setLink_cond]
  rw [dispose_setLink]
  split
  · rw [holdAtFrameEnd_setLink]
  · rfl

theorem disposeAll_setLink (cs : List (Kind × Subject)) (b : Bool) :
    cs.foldl disposeOfFrame (s.setLink l, b) =
      ((cs.foldl disposeOfFrame (s, b)).1.setLink l, (cs.foldl disposeOfFrame (s, b)).2) := by
  induction cs generalizing s b with
  | nil => rfl
  | cons c cs ih => simp only [List.foldl_cons]; rw [disposeOfFrame_setLink, ih]

theorem detach_setLink (i : Nat) (m : Mark) : detach (s.setLink l) i m = (detach s i m).setLink l := by
  unfold detach
  simp only [setLink_rounds]
  split
  · rfl
  · rfl
  · split
    · rw [if_pos (by assumption)]; rfl
    · rw [if_neg (by assumption)]; rfl

theorem stop_setLink (i : Nat) : stop (s.setLink l) i = (stop s i).setLink l := by
  cases h : s.sweep.running
  · simp [stop, endSweep, h]; rfl
  · simp [stop, endSweep, h]; rfl

theorem storeError_setLink (i : Nat) : storeError (s.setLink l) i = (storeError s i).setLink l := by
  unfold storeError
  have h : (s.setLink l).setTable ((s.setLink l).table.put i .damaged) =
      (s.setTable (s.table.put i .damaged)).setLink l := rfl
  rw [h, stop_setLink, detach_setLink]

theorem claimUnplaced_setLink (i : Nat) :
    claimUnplaced (s.setLink l) i = ((claimUnplaced s i).1.setLink l, (claimUnplaced s i).2) := by
  unfold claimUnplaced
  simp only [setLink_table]
  rcases s.table.get i with _ | ⟨r, d⟩ | _ | _ <;> dsimp only
  by_cases hd : d = 0#16
  · simp [hd]; rfl
  · simp [hd, storeError_setLink]

theorem addEntry_setLink (q : Fin 64) (i : Nat) (r : BinRecord) (c : EntryClass) :
    addEntry (s.setLink l) q i r c = ((addEntry s q i r c).1.setLink l, (addEntry s q i r c).2) := by
  have h1 : (s.setLink l).round q = s.round q := rfl
  have h2 : ∀ x, (s.setLink l).setRound q x = (s.setRound q x).setLink l := fun _ => rfl
  unfold addEntry
  dsimp only
  rw [h1, setLink_free, setLink_time]
  simp only [h2]
  repeat' split
  all_goals first
    | rfl
    | simp only [claimUnplaced_setLink]

theorem place_setLink (i : Nat) (r : BinRecord) (c : EntryClass) :
    place (s.setLink l) i r c = ((place s i r c).1.setLink l, (place s i r c).2) := by
  have h : ∀ q, (s.setLink l).round q = s.round q := fun _ => rfl
  unfold place
  simp only [setLink_rounds, setLink_time, addEntry_setLink, h]
  repeat' split
  all_goals rfl

end Link

/-! ## The apply claim under a request in hand and under a RESTART -/

theorem disposeFrame_handler (s : State) (f : LaneFrame) (cs : List (Kind × Subject)) :
    (disposeFrame s f cs).link.handler = s.link.handler := by
  unfold disposeFrame offerRelay
  dsimp only
  repeat' split
  all_goals simp

section Handler

variable {s : State} {h : Handler} {r : Request} {tag : Word16} {done lost : Nat}

theorem offerRelay_withHandler (f : LaneFrame) (hr : s.link.reserved = true)
    (hh : ({ s.link with handler := h } : Link).reserved = true) :
    offerRelay (s.withHandler h) f = (offerRelay s f).withHandler h := by
  have hp : (s.setLink { s.link with handler := h }).link.freePlaces = s.link.freePlaces := by
    simp only [Link.freePlaces, setLink_link, hr, hh]
  unfold offerRelay State.withHandler
  rw [hp]
  split <;> rfl

theorem disposeFrame_withHandler (f : LaneFrame) (cs : List (Kind × Subject)) (hr : s.link.reserved = true)
    (hh : ({ s.link with handler := h } : Link).reserved = true) :
    disposeFrame (s.withHandler h) f cs = (disposeFrame s f cs).withHandler h := by
  unfold disposeFrame State.withHandler
  rw [disposeAll_setLink]
  have e : (cs.foldl disposeOfFrame (s, false)).1.link = s.link := by simp
  dsimp only
  split
  · have := offerRelay_withHandler (s := (cs.foldl disposeOfFrame (s, false)).1) (h := h) f (by rw [e]; exact hr)
      (by rw [e]; exact hh)
    unfold State.withHandler at this
    rw [e] at this
    rw [this]
  · rw [e]

variable (hr : s.link.handler = .taken r) (hh : h = .restarting tag done lost)
include hr hh

theorem endFrame_withHandler (n : Fin 4) (o : Byte) :
    endFrame (s.withHandler h) n o = (endFrame s n o).withHandler h := by
  subst hh
  unfold endFrame settleHold leaveQueue State.withHandler
  simp only [setLink_link, setLink_intake, setIntake_intake, setIntake_link, hr]
  rcases s.intake.state <;> rcases s.intake.holdWaiting <;> simp [answerWaiting, hr] <;> rfl

theorem endFrameThenStop_withHandler (n : Fin 4) (o : Byte) :
    endFrameThenStop (s.withHandler h) n o = (endFrameThenStop s n o).withHandler h := by
  subst hh
  unfold endFrameThenStop holdThenStop leaveQueue State.withHandler
  simp only [setLink_intake, setIntake_intake]
  rcases s.intake.holdWaiting <;> simp [answerWaiting, hr] <;> rfl

theorem refuseFrame_withHandler (f : LaneFrame) (k : Kind) (y : Subject) :
    refuseFrame (s.withHandler h) f k y = (refuseFrame s f k y).withHandler h := by
  unfold refuseFrame
  rw [disposeFrame_withHandler f _ (by simp [Link.reserved, hr]) (by subst hh; rfl),
    endFrame_withHandler (by rw [disposeFrame_handler]; exact hr) hh]

theorem applyRecord_withHandler (x : InFlight) (b : BinRecord) :
    applyRecord (s.withHandler h) x b [] = (applyRecord s x b []).withHandler h := by
  have reserved : s.link.reserved = true := by simp [Link.reserved, hr]
  have keeps : ∀ l : Link, ({ l with handler := h } : Link).reserved = true := by intro l; subst hh; rfl
  have e0 : (s.withHandler h).profiles = s.profiles := rfl
  have e1 : (if x.sensor.lift = true then detach (s.withHandler h) x.slot .served else s.withHandler h) =
      (if x.sensor.lift = true then detach s x.slot .served else s).withHandler h := by
    split
    · unfold State.withHandler
      rw [detach_setLink]
      simp
    · rfl
  have l1 : (if x.sensor.lift = true then detach s x.slot .served else s).link = s.link := by split <;> simp
  unfold applyRecord
  dsimp only [List.foldl_nil]
  rw [e1, e0]
  generalize (if x.sensor.lift = true then detach s x.slot .served else s) = v at *
  have e2 : ∀ q b, makeSheetRequest (v.withHandler h) x.slot b q =
      ((makeSheetRequest v x.slot b q).1.withHandler h, (makeSheetRequest v x.slot b q).2) := by
    intro q b
    cases q
    · simp only [makeSheetRequest, State.withHandler, place_setLink, place_frame]
    · simp only [makeSheetRequest, State.withHandler, detach_setLink, detach_frame]
    · rfl
  rw [e2]
  generalize evaluate (Vec.get s.profiles b.profile) x b = y
  have l2 : (makeSheetRequest v x.slot y.bin y.sheetRequest).1.link = s.link := by simp [l1]
  generalize makeSheetRequest v x.slot y.bin y.sheetRequest = d at *
  have e3 : (d.1.withHandler h).writeRecord x.slot d.2.1 = (d.1.writeRecord x.slot d.2.1).withHandler h := rfl
  have e4 : ∀ u : State, (u.withHandler h).isStopped = u.isStopped := fun _ => rfl
  have l3 : (d.1.writeRecord x.slot d.2.1).link = s.link := by simp [State.writeRecord, l2]
  have hd : ∀ cs, (disposeFrame (d.1.writeRecord x.slot d.2.1) x.frame cs).link.handler = .taken r := by
    intro cs; rw [disposeFrame_handler, l3]; exact hr
  dsimp only
  rw [e3, e4, e4, disposeFrame_withHandler x.frame _ (by rw [l3]; exact reserved) (keeps _),
    endFrame_withHandler (hd _) hh, endFrameThenStop_withHandler (hd _) hh]
  split <;> rfl

/-- The apply claim ends the frame alike with a request in hand and with a RESTART begun: neither waits on the frame's
end, and both hold a place of the Uplink Queue. -/
theorem applyClaim_withHandler : applyClaim [] (s.withHandler h) = (applyClaim [] s).withHandler h := by
  unfold applyClaim
  have e : (s.withHandler h).intake = s.intake := rfl
  rw [e]
  split
  · rename_i x _
    have e1 : (s.withHandler h).table = s.table := rfl
    have e2 : (s.withHandler h).time = s.time := rfl
    unfold applyInFlight
    rw [e1, e2]
    have e3 : storeError (s.withHandler h) x.slot = (storeError s x.slot).withHandler h := by
      unfold State.withHandler
      rw [storeError_setLink]
      simp
    rcases s.table.get x.slot with _ | ⟨b, c⟩ | _ | _ <;> dsimp only <;> split
    · exact refuseFrame_withHandler hr hh _ _ _
    · exact endFrame_withHandler hr hh _ _
    · rw [e3, endFrame_withHandler (by simpa using hr) hh]
    · split
      · exact refuseFrame_withHandler hr hh _ _ _
      · exact applyRecord_withHandler hr hh x b
    · exact refuseFrame_withHandler hr hh _ _ _
    · exact endFrame_withHandler hr hh _ _
    · exact refuseFrame_withHandler hr hh _ _ _
    · exact endFrame_withHandler hr hh _ _
  · rfl

end Handler

/-! ## The steps -/

section Steps

variable (s : State) (h : Handler) (tag : Word16) (lost : Nat)

theorem restartSweep_withHandler : restartSweep (s.withHandler h) = (restartSweep s).withHandler h := by
  unfold restartSweep endSweep
  have e : (s.withHandler h).sweep = s.sweep := rfl
  rw [e]
  cases s.sweep.running <;> rfl

theorem restartStep_first : restartStep (s.withHandler (.restarting tag 0 lost)) =
    (restartIntakeEnd (s.withHandler (.restarting tag 0 lost))).withHandler (.restarting tag 1 lost) := rfl

theorem restartStep_second : restartStep (s.withHandler (.restarting tag 1 lost)) =
    (restartSweep s).withHandler (.restarting tag 2 lost) := by
  have e : restartStep (s.withHandler (.restarting tag 1 lost)) =
      (restartSweep (s.withHandler (.restarting tag 1 lost))).withHandler (.restarting tag 2 lost) := rfl
  rw [e, restartSweep_withHandler]
  rfl

theorem restartStep_third : restartStep (s.withHandler (.restarting tag 2 lost)) =
    (restartTable s).withHandler (.restarting tag 3 s.table.lost) := rfl

theorem restartStep_fourth : restartStep (s.withHandler (.restarting tag 3 lost)) =
    (restartConditions s).withHandler (.restarting tag 4 lost) := rfl

theorem restartStep_fifth : restartStep (s.withHandler (.restarting tag 4 lost)) =
    (restartIntake s).withHandler (.restarting tag 5 lost) := rfl

theorem restartStep_sixth : restartStep (s.withHandler (.restarting tag 5 lost)) =
    (restartLink s).withHandler (.restarting tag 6 lost) := rfl

theorem restartStep_seventh : restartStep (s.withHandler (.restarting tag 6 lost)) =
    answer (s.withHandler (.restarting tag 6 lost)) 0x9F tag .ok
      (be16 lost ++ be16 (s.table.count Slot.isLive)) := rfl

/-- The receiver waits after step 6, or is as it was (R175, R189). -/
theorem restartLink_rx (u : State) : (restartLink u).link.rx = .waiting ∨ (restartLink u).link.rx = u.link.rx := by
  simp only [restartLink, restartReceiver, setLanes_link, setLink_link]
  split
  · exact .inr rfl
  · exact .inl rfl

/-- The lane counters after step 6 are zeroed, or as they were (R188, R189). -/
theorem restartLink_lanes (u : State) :
    (restartLink u).lanes = Vec.map Lane.zero u.lanes ∨ (restartLink u).lanes = u.lanes := by
  simp only [restartLink, setLanes_lanes]
  split
  · exact .inr rfl
  · exact .inl rfl

/-- A RESTART whose seven steps are all made: the apply claim of a frame in flight, the work of steps 2 to 6 in a row,
and the answer. -/
theorem exec_restart_whole {s : State} {tag : Word16} {operands : List Byte} (hs : s.rstLow = false)
    (hr : s.link.handler = .taken ⟨0x9F, tag, operands⟩) :
    let v := restartSweep (applyClaim [] s)
    let t := restartLink (restartIntake (restartConditions (restartTable v)))
    exec (.restart 7) s = .next (answer (t.withHandler (.restarting tag 6 v.table.lost)) 0x9F tag .ok
      (be16 v.table.lost ++ be16 (t.table.count Slot.isLive))) := by
  have b : beginRestart s = s.withHandler (.restarting tag 0 0) := by simp only [beginRestart, hr]; rfl
  have e : restartIntakeEnd (s.withHandler (.restarting tag 0 0)) = applyClaim [] (s.withHandler (.restarting tag 0 0)) :=
    rfl
  have again : ∀ (t : State) (g g' : Handler), (t.withHandler g).withHandler g' = t.withHandler g' := fun _ _ _ => rfl
  rw [exec_restart, event_high _ hs]
  simp only [restartSteps]
  rw [b, restartStep_first, e, applyClaim_withHandler hr rfl, again]
  generalize applyClaim [] s = u
  rw [restartStep_second, restartStep_third, restartStep_fourth, restartStep_fifth, restartStep_sixth,
    restartStep_seventh]

end Steps

end Sys2Proof.Machine
end

