-- ==== Sys2Proof/Laws/Spelled.lean ====
section
/-! SUPPORT. The words of the statements and the shared operations: an answer, a hold, a condition noted, a frame's
dispositions, a frame's end and a re-examination are what the statements spell out. -/

namespace Sys2Proof.Machine

theorem answer_spelled (s : State) (c : Byte) (t : Word16) (q : ResultCode) (d : List Byte) :
    answer s c t q d = answeredWith s c t q.byte d := by
  simp [answer, answeredWith, responseFrame, be16]

theorem reply_spelled (s : State) (r : Request) (q : ResultCode) (d : List Byte) :
    reply s r q d = answeredWith s r.code r.tag q.byte d := answer_spelled ..

theorem exec_asked {s : State} {code : Byte} {tag : Word16} {operands : List Byte} (h : Asked s code tag operands)
    (f : Request → State → State) : onRequest s code f = .next (f ⟨code, tag, operands⟩ s) :=
  onRequest_taken _ _ h.1 h.2 rfl

theorem raiseHeld_spelled (n : Notices) (c : Cause) :
    n.raiseHeld c =
      { n with held := { n.held with set := true }, heldCause := some c, list := joined n .held } := by
  rcases n with ⟨r, cs, ⟨set, enabled⟩, hc, sd, st, sl, l⟩
  unfold Notices.raiseHeld Notices.raise joined
  simp only [Notices.isSet, Notices.isEnabled, Notices.owe, Notices.markSet]
  cases set <;> cases enabled <;> by_cases h : StatusId.held ∈ l <;> simp [h]

theorem holdNow_spelled (s : State) (c : Cause) : holdNow s c = heldWith s c := by
  unfold holdNow heldWith
  rw [raiseHeld_spelled]

theorem noteKind_spelled (s : State) (k : Kind) (x : Option Subject) (n : Word32) :
    noteKind s k x n = notedWith s k x n := by
  simp only [noteKind, notedWith, note_eq, joined, Notices.isEnabled, Bool.true_eq_false, false_or]

/-! ## A frame's dispositions and its end -/

theorem disposeOfFrame_spelled (s : State) (b : Bool) (c : Kind × Subject) :
    disposeOfFrame (s, b) c = (disposedOf s c.1 c.2, b || decide (s.cond.action c.1 = .relay)) := by
  unfold disposeOfFrame disposedOf
  dsimp only
  rcases ha : s.cond.action c.1 <;> simp only [dispose, noteKind_spelled] <;> rfl

theorem disposedOf_action (s : State) (k j : Kind) (x : Subject) :
    (disposedOf s k x).cond.action j = s.cond.action j := by
  unfold disposedOf
  dsimp only
  split <;> rfl

theorem disposeAll_spelled (l : List (Kind × Subject)) (s : State) (b : Bool) :
    l.foldl disposeOfFrame (s, b) =
      (l.foldl (fun u c => disposedOf u c.1 c.2) s, b || decide (∃ c ∈ l, s.cond.action c.1 = .relay)) := by
  induction l generalizing s b with
  | nil => simp
  | cons c l ih =>
    simp only [List.foldl_cons]
    rw [disposeOfFrame_spelled, ih]
    simp only [disposedOf_action, List.mem_cons, exists_eq_or_imp, Bool.or_assoc]
    congr 2
    simp

theorem disposeFrame_spelled (s : State) (f : LaneFrame) (l : List (Kind × Subject)) :
    disposeFrame s f l = allDisposedOf s f l := by
  unfold disposeFrame allDisposedOf
  rw [disposeAll_spelled]
  simp only [Bool.false_or, decide_eq_true_eq]
  split
  · unfold offerRelay LaneFrame.relayBody
    have e : ∀ l : Link, (9 ≤ l.freePlaces ↔ l.uplink.length + (if l.handler = .idle then 0 else 1) + 9 ≤ 64) := by
      intro l
      unfold Link.freePlaces Link.reserved Config.uplinkCapacity
      cases l.handler <;> simp <;> omega
    simp only [Config.relayNeeds, e]
    generalize List.foldl (fun u c => disposedOf u c.1 c.2) s l = t
    by_cases h : t.link.uplink.length + (if t.link.handler = .idle then 0 else 1) + 9 ≤ 64 <;>
      simp only [h, if_true, if_false]
  · rfl

theorem endFrame_spelled (s : State) (lane : Fin 4) (o : Byte) : endFrame s lane o = frameOver s lane o := by
  have k1 : ∀ (x : State) (c : Cause), (heldWith x c).intake.taken = x.intake.taken := fun _ _ => rfl
  have k2 : ∀ (x : State) (c : Cause), (heldWith x c).intake.state = .held c := fun _ _ => rfl
  have k3 : ∀ (x : State) (c : Cause), (heldWith x c).link = x.link := fun _ _ => rfl
  unfold endFrame settleHold frameOver
  simp only [leaveQueue, setIntake_intake, setIntake_link]
  rcases hh : s.link.handler with _ | r | tag | tag | ⟨tag, d, n⟩ <;> rcases s.intake.state with _ | c | _ <;>
    rcases s.intake.holdWaiting with _ | q <;>
    simp [answerWaiting, hh, holdNow_spelled, k1, k2, k3, State.isStopped, answer_spelled, ResultCode.byte,
      Notices.recauseHeld]
  rfl

theorem endFrameThenStop_spelled {s : State} (hs : s.intake.state = .stopped) (lane : Fin 4) (o : Byte) :
    endFrameThenStop s lane o = frameOverThenStopped s := by
  unfold endFrameThenStop frameOverThenStopped holdThenStop leaveQueue
  rw [← hs]
  rcases hh : s.link.handler with _ | r | tag | tag | ⟨tag, d, n⟩ <;> rcases s.intake.holdWaiting with _ | q <;>
    simp [answerWaiting, hh, holdNow_spelled, heldWith, State.isStopped, answer_spelled, ResultCode.byte, hs]

/-! ## A status of a round (R181) -/

theorem raise_round_spelled (n : Notices) (q : Fin 64) (w : RoundStatus) :
    n.raise (.round q w) = roundSet n q w := by
  have marked : n.markSet (.round q w) = { roundSet n q w with list := n.list } := by cases w <;> rfl
  have e : roundSet n q w = { n.markSet (.round q w) with list := joined n (.round q w) } := by rw [marked]; rfl
  have kept : n.isSet (.round q w) = true → (n.markSet (.round q w)).rounds = n.rounds := by
    intro h
    have hf : ∀ f : Flag, f.set = true → ({ f with set := true } : Flag) = f := by
      rintro ⟨b, c⟩ h; cases h; rfl
    have same : (Vec.get n.rounds q).put w { n.roundFlag q w with set := true } = Vec.get n.rounds q := by
      rw [hf _ h]; cases w <;> rfl
    simp only [Notices.markSet, Notices.putRoundFlag, same]
    exact Vec.put_get _ _
  rw [e]
  unfold Notices.raise Notices.owe joined
  by_cases h : n.isSet (.round q w) = true
  · have := kept h
    simp only [h, if_true, true_or]
    rw [show ({ n.markSet (.round q w) with list := n.list } : Notices) =
      { n with rounds := (n.markSet (.round q w)).rounds } from rfl, this]
  · by_cases h2 : n.isEnabled (.round q w) = true <;> by_cases h3 : StatusId.round q w ∈ n.list <;>
      simp [h, h2, h3, Notices.markSet, Notices.putRoundFlag]

theorem raiseRound_spelled (s : State) (q : Fin 64) (w : RoundStatus) :
    s.raiseRound q w = s.setNotices (roundSet s.notices q w) := by
  unfold State.raiseRound
  rw [raise_round_spelled]

/-! ## Carry-over (R131, R132) -/

theorem claimUnplaced_spelled (s : State) (i : Nat) : (claimUnplaced s i).1 = unplacedAt s i := by
  rcases claimUnplaced_cases s i with ⟨r, h, c⟩ | ⟨r, d, h, hd, c⟩ | ⟨h, c⟩ <;> rw [c] <;> unfold unplacedAt
  · simp [h, State.writeRecord]
  · simp [h, show ¬ d = 0#16 from hd]
  · split
    · rename_i r d h'; exact absurd h' (h r d)
    · rfl

theorem carryOne_spelled (q : Fin 64) (acc : State × Figures) (e : Entry) :
    carryOne q acc e = carriedOver q acc e := by
  have dropped : (if (claimUnplaced (acc.1.setFree (acc.1.free + 1)) e.slot).2 = true then
      raiseT (claimUnplaced (acc.1.setFree (acc.1.free + 1)) e.slot).1 .placeFail (.bin e.binId)
      else (claimUnplaced (acc.1.setFree (acc.1.free + 1)) e.slot).1) = notCarried acc.1 e := by
    have claimed := claimUnplaced_spelled (acc.1.setFree (acc.1.free + 1)) e.slot
    rw [claimed]
    unfold notCarried
    rcases claimUnplaced_cases (acc.1.setFree (acc.1.free + 1)) e.slot with ⟨r, h, c⟩ | ⟨r, d, h, hd, c⟩ | ⟨h, c⟩ <;>
      rw [c] <;> simp only [setFree_table] at h
    · simp [h]
    · simp [h, show ¬ d = 0#16 from hd]
    · rw [if_pos rfl]
      dsimp only
      split
      · rename_i r d h'; exact absurd h' (h r d)
      · rfl
  rw [claimUnplaced_spelled] at dropped
  unfold carryOne carriedOver
  simp only [claimUnplaced_spelled, dropped, EntryClass.lower, decide_eq_true_eq] <;> rfl

/-! ## The end of a sweep visit (R161) -/

theorem endVisit_spelled (s : State) (i : Nat) : endVisit s i = walked s i := by
  have raised : ∀ n : Notices, n.raise .sweepDone =
      { n with sweepDone := { n.sweepDone with set := true }, list := joined n .sweepDone } := by
    rintro ⟨r, cs, h, hc, ⟨set, enabled⟩, st, sl, l⟩
    unfold Notices.raise joined
    simp only [Notices.isSet, Notices.isEnabled, Notices.owe, Notices.markSet]
    cases set <;> cases enabled <;> by_cases h : StatusId.sweepDone ∈ l <;> simp [h]
  unfold endVisit walked finishSweep
  split
  · subst_vars
    simp only [setSweep_notices, raised]
    rfl
  · rfl

/-! ## Re-examination (R74) -/

theorem reexamine_spelled (s : State) (k : Kind) : reexamine s k = reexamined s k := by
  unfold reexamine reexamined
  dsimp only
  split
  · rfl
  · have e : ∀ n, clearDeferred (noteKind s k (Vec.get s.cond.deferred k.idx).subject n) k =
        notedWith (clearDeferred s k) k (Vec.get s.cond.deferred k.idx).subject n := by
      intro n
      rw [noteKind_spelled]
      rfl
    rcases s.cond.action k <;> dsimp only <;> (try rfl)
    · exact e _
    · rw [e, holdForT_eq, holdNow_spelled]
      rfl

/-! ## A failed check code (R24, R30, R75) -/

theorem raiseStopped_spelled (n : Notices) (i : Nat) :
    n.raiseStopped i =
      { n with
        stopped := { n.stopped with set := true },
        stoppedSlot := if n.stopped.set = true then n.stoppedSlot else some i, list := joined n .stopped } := by
  rcases n with ⟨r, cs, h, hc, sd, ⟨set, enabled⟩, sl, l⟩
  unfold Notices.raiseStopped Notices.raise joined
  simp only [Notices.isSet, Notices.isEnabled, Notices.owe, Notices.markSet]
  cases set <;> cases enabled <;> by_cases h : StatusId.stopped ∈ l <;> simp [h]

theorem unmarkedAt_iff (i : Nat) (e : Entry) : e.unmarkedAt i = true ↔ e.mark = .none ∧ e.slot = i := by
  simp [Entry.unmarkedAt]

theorem unmarkedAt_false_iff (i : Nat) (e : Entry) : e.unmarkedAt i = false ↔ ¬ (e.mark = .none ∧ e.slot = i) := by
  rw [← unmarkedAt_iff, Bool.not_eq_true]

theorem locate_none_iff (s : State) (i : Nat) : locate s.rounds i = none ↔ noEntry s i := by
  rw [locate_none]
  unfold noEntry
  exact forall_congr' fun q => forall₂_congr fun e _ => unmarkedAt_false_iff i e

/-- A Withdraw removes or marks the slot's unmarked entry as `entryWithdrawn` says. -/
theorem detach_withdrawn (s : State) (i : Nat) : entryWithdrawn s (detach s i .withdrawn) i := by
  refine ⟨?_, ?_, ?_⟩
  · intro h
    rw [detach, (locate_none_iff s i).mpr h]
    exact ⟨rfl, rfl⟩
  · rintro u b e a hl ⟨h1, h2, h3, h4⟩
    have g := dropEntry_split (fun x hx => (unmarkedAt_false_iff i x).mpr (h4 x hx))
      ((unmarkedAt_iff i e).mpr ⟨h2, h3⟩) (after := a)
    simp only [detach, hl, h1, g]
    exact ⟨rfl, rfl⟩
  · rintro u b e a hl ⟨h1, h2, h3, h4⟩
    have hb : ∀ x ∈ b, x.unmarkedAt i = false := fun x hx => (unmarkedAt_false_iff i x).mpr (h4 x hx)
    have he : e.unmarkedAt i = true := (unmarkedAt_iff i e).mpr ⟨h2, h3⟩
    constructor
    · intro ho
      simp only [detach, hl, ho, OtherState.removes, if_true, h1, dropEntry_split hb he]
      exact ⟨rfl, rfl⟩
    · rintro (ho | ho) <;>
        (simp only [detach, hl, ho, OtherState.removes, Bool.false_eq_true, if_false, h1, markEntry_split hb he]
         exact ⟨rfl, rfl⟩)

end Sys2Proof.Machine
end

