-- ==== Sys2Proof/Laws/Status.lean ====
section
/-! SUPPORT. What reading items of a STATUS leaves of each item, and when the STATUS is answered (R185). -/

namespace Sys2Proof.Machine

theorem statusPlace_injective {i j : StatusItem} (h : statusPlace i = statusPlace j) : i = j := by
  revert h; cases i <;> cases j <;> decide

theorem mem_allStatusItems (i : StatusItem) : i ∈ allStatusItems := by cases i <;> decide

variable (s : State) (got : StatusRead)

theorem readItem_get (i j : StatusItem) : Vec.get (readItem s got i) (statusPlace j) =
    if j = i then some ((Vec.get got (statusPlace j)).getD (statusItem s j)) else Vec.get got (statusPlace j) := by
  unfold readItem
  rw [Vec.get_put]
  by_cases h : j = i
  · subst h; simp
  · rw [if_neg h, if_neg fun e => h (statusPlace_injective e).symm]

/-- Reading items gives each of them its value at the first reading and leaves the others as they were. -/
theorem readItems_get (items : List StatusItem) (j : StatusItem) :
    Vec.get (items.foldl (readItem s) got) (statusPlace j) =
      if j ∈ items then some ((Vec.get got (statusPlace j)).getD (statusItem s j))
      else Vec.get got (statusPlace j) := by
  induction items generalizing got with
  | nil => simp
  | cons i l ih =>
    rw [List.foldl_cons, ih, readItem_get]
    by_cases h : j = i
    · subst h; by_cases m : j ∈ l <;> simp [m]
    · by_cases m : j ∈ l <;> simp [h, m]

theorem complete_iff : StatusRead.complete got = true ↔ ∀ i, Vec.get got (statusPlace i) ≠ none := by
  simp only [StatusRead.complete, List.all_eq_true, Option.isSome_iff_ne_none]
  exact ⟨fun h i => h i (mem_allStatusItems i), fun h i _ => h i⟩

/-- After the reading every item is there exactly when each was given or had been read before. -/
theorem complete_readItems (items : List StatusItem) :
    StatusRead.complete (items.foldl (readItem s) got) = true ↔
      ∀ i, i ∈ items ∨ Vec.get got (statusPlace i) ≠ none := by
  rw [complete_iff]
  refine forall_congr' fun i => ?_
  rw [readItems_get]
  by_cases m : i ∈ items <;> simp [m]

variable {s} {got} {tag : Word16} {items : List StatusItem}

theorem statusWork_taken (h : s.link.handler = .taken ⟨0x90, tag, []⟩) :
    statusWork items s = readStatus items
      (s.setLink { s.link with handler := .readingStatus tag (Vector.replicate 10 none) }) := by
  simp [statusWork, beginStatus, h]

theorem statusWork_reading (h : s.link.handler = .readingStatus tag got) :
    statusWork items s = readStatus items s := by
  simp [statusWork, beginStatus, h]

/-- A STATUS whose last items are read is answered with every item as it was first read. -/
theorem readStatus_answers (h : s.link.handler = .readingStatus tag got)
    (all : ∀ i, i ∈ items ∨ Vec.get got (statusPlace i) ≠ none) :
    readStatus items s = answer s 0x90 tag .ok
      (allStatusItems.flatMap fun i => (Vec.get got (statusPlace i)).getD (statusItem s i)) := by
  simp only [readStatus, h, (complete_readItems s got items).mpr all, if_true, StatusRead.data]
  congr 1
  refine congrArg (fun f => List.flatMap f allStatusItems) (funext fun i => ?_)
  rw [readItems_get]
  rcases all i with m | m
  · simp [m]
  · obtain ⟨l, e⟩ := Option.ne_none_iff_exists'.mp m
    by_cases m : i ∈ items <;> simp [m, e]

/-- A STATUS with items still to be read waits with those read so far. -/
theorem readStatus_waits (h : s.link.handler = .readingStatus tag got)
    (some_left : ∃ i, i ∉ items ∧ Vec.get got (statusPlace i) = none) :
    readStatus items s =
      s.setLink { s.link with handler := .readingStatus tag (items.foldl (readItem s) got) } := by
  have n : ¬ StatusRead.complete (items.foldl (readItem s) got) = true := by
    rw [complete_readItems]
    obtain ⟨i, m, e⟩ := some_left
    exact fun h => (h i).elim m fun ne => ne e
  simp only [readStatus, h, n, Bool.false_eq_true, if_false]

end Sys2Proof.Machine
end

