-- ==== Sys2Proof/Tests/Slice0.lean ====
section
/-! SUPPORT. Tests: ill-formed commands, the manual's worked values, one step of each command, and for each statement
with hypotheses a state that meets them. -/

namespace Sys2Proof.Tests

open Sys2Proof.Machine

set_option Elab.async false

/-! ## Ill-formed commands -/

theorem test_wellFormed_rejects_lane : (Instr.laneFrameEnd 4 []).wellFormed = false := by decide
theorem test_wellFormed_rejects_between : (Instr.applyClaim [.event (.cutoff 64)]).wellFormed = false ∧
    (Instr.applyClaim [.sheetRequest, .event (.expiry 4)]).wellFormed = false ∧
    (Instr.binPut [.cutoff 64]).wellFormed = false ∧ (Instr.binPut [.expiry 4]).wellFormed = false := by decide
theorem test_wellFormed_rejects_slot : (Instr.tick [(8192, 1)]).wellFormed = false := by decide
theorem test_wellFormed_rejects_round : (Instr.cutoffEvent 64).wellFormed = false := by decide
theorem test_wellFormed_rejects_port : (Instr.drawTimerExpiry 4).wellFormed = false := by decide
theorem test_wellFormed_rejects_body : (Instr.linkFrameReceived (List.replicate 601 0) (some 0)).wellFormed = false := by
  decide +kernel
theorem test_wellFormed_rejects_steps : (Instr.restart 8).wellFormed = false := by decide
theorem test_wellFormed_rejects_asserted : (Instr.rstRelease true [1, 4]).wellFormed = false := by decide
theorem test_wellFormed_rejects_type : (Instr.badFrameBeforeCrc (.typeByte 1)).wellFormed = false := by decide
theorem test_wellFormed_rejects_length : (Instr.badFrameBeforeCrc (.bodyLength 600)).wellFormed = false := by decide
theorem test_wellFormed_accepts_edges :
    ([Instr.laneFrameEnd 3 [], .applyClaim [.event (.cutoff 63), .event (.expiry 3)], .binPut [.cutoff 63, .expiry 3],
      .tick [(8191, 1)], .cutoffEvent 63, .drawTimerExpiry 3, .restart 7, .rstRelease false [3], .badFrameBeforeCrc (.bodyLength 601), .badFrameBeforeCrc (.typeByte 0)].all
      Instr.wellFormed) = true := by decide

/-! ## Small states -/

/-- The part with intake in a given state. -/
def withState (x : IntakeState) : State := State.reset.setIntake { State.reset.intake with state := x }

/-- Intake RUN, everything else as after reset. -/
def running : State := withState .run

/-- Intake STOPPED, everything else as after reset. -/
def stopped : State := withState .stopped

/-- `s` with a request taken, tag 7. -/
def asking (s : State) (code : Byte) (operands : List Byte) : State :=
  s.setLink { s.link with handler := .taken ⟨code, 7, operands⟩ }

theorem asked {s : State} (code : Byte) (operands : List Byte) (h : s.rstLow = false) :
    Asked (asking s code operands) code 7 operands := ⟨h, rfl⟩

/-- A litter bin of round 0 under profile 0. -/
def bin (id : Word32) (state : BinState) (fill : Option Nat) (placement : Placement) : BinRecord where
  binId := id
  kind := .litter
  round := some 0
  profile := 0
  state := state
  fill := fill
  lastSeq := some 900
  heardEpoch := 0
  blankUntil := none
  crossing := if state = .due ∨ state = .urgent then some 0 else none
  silent := false
  heat := false
  tamper := false
  lowBattery := false
  placement := placement
  lastLane := some 0
  lastSignal := some 0
  battery := some 50
  applied := 0
  refused := 0

/-- `s` with a LIVE slot. -/
def holding (s : State) (i : Nat) (r : BinRecord) (diff : Word16) : State := s.setTable (s.table.put i (.live r diff))

/-- Bin 1 in its home slot, NORMAL with fill 57. -/
def oneBin : State := holding running 5062 (bin 1 .normal (some 57) .none) 0

/-- An entry of a slot. -/
def entry (slot : Nat) (c : EntryClass) : Entry := ⟨1, slot, c, .none, false, none, 0, none⟩

/-- `s` with the sides of round 0 given. -/
def sides (s : State) (fill : List Entry) (y : OtherState) (other : List Entry) : State :=
  s.setRound 0 { s.round 0 with fill := fill, otherState := y, other := other }

/-- Port 0 reads round 0's side of two entries. -/
def reading : State :=
  ((sides running [] .opened [entry 1 .urgent, entry 2 .due]).setRound 0
    { (sides running [] .opened [entry 1 .urgent, entry 2 .due]).round 0 with bound := some 0 }).setPort 0
    ⟨.reading 0, 0, 3, false⟩

/-- Port 0 has read the same side to its end. -/
def atEnd : State :=
  (reading.setRound 0 { reading.round 0 with otherState := .spent }).setPort 0 ⟨.exhausted 0, 2, 3, false⟩

/-- Port 0 waits for a side of round 0. -/
def waiting : State :=
  (running.setRound 0 { running.round 0 with bound := some 0 }).setPort 0 ⟨.waiting 0, 0, 0, false⟩

/-- The 13 bytes of a sensor frame of bin 1 with a good CRC, and its lane frame. -/
def frame (seq flags distance battery : Byte) : LaneFrame :=
  let body : List Byte := [0, 0, 0, 1, 3, seq, flags, 0, distance, battery, 0]
  ⟨2, 40, body ++ be16 (crc16 body).toNat, false⟩

/-- `s` with frames in the Intake Queue. -/
def queued (s : State) (l : List LaneFrame) : State :=
  s.setIntake { s.intake with queue := l, accepted := BitVec.ofNat 32 l.length }

/-- The sensor frame of `frame`. -/
def sensed (seq flags distance battery : Byte) : SensorFrame :=
  ⟨1, 768 + seq.setWidth 16, .litter, flags.getLsbD 6, flags.getLsbD 5, flags.getLsbD 4, flags.getLsbD 3,
    distance.toNat, battery.toNat⟩

/-- Bin 1's frame in flight, after its lookup claim. -/
def inFlight (s : State) (flags distance : Byte) (dropped : Bool) : State :=
  let s := queued s [frame 133 flags distance 90]
  s.setIntake { s.intake with
    inFlight := some ⟨frame 133 flags distance 90, sensed 133 flags distance 90, 0, 0, 5062, false, dropped⟩ }

/-- What a command leaves, read through `f`; nothing where it stops. -/
def after {α : Type} (c : Instr) (s : State) (f : State → α) : Option α :=
  match exec c s with
  | .next t => some (f t)
  | .fault _ => none
  | .refused _ => none

/-- The response a command builds. -/
def response (c : Instr) (s : State) : Option (List Byte) :=
  after c s fun t => (t.link.uplink.getLast?.map UplinkFrame.body).getD []

/-- `s` with one action for the kind's armed row. -/
def armed (s : State) (k : Kind) (a : Action) : State :=
  s.setCond { s.cond with rows := Vec.put s.cond.rows k.idx ⟨a, .record⟩ }

/-- SILENCE deferred, with `n` occurrences put aside. -/
def deferring (s : State) (n : Word32) : State :=
  (armed s .silence .defer).setCond { (armed s .silence .defer).cond with
    deferred := Vec.put s.cond.deferred 14 ⟨n, some (.bin 1)⟩ }

/-! ## The manual's worked values -/

theorem test_home_slots : ([1, 2, 3].map home) = [5062, 1933, 6996] := by decide

/-- Section 3.9: the fills of the collection of a litter bin. -/
theorem test_fills_of_a_collection :
    ([44, 36, 37, 90, 3, 110, 12, 105].map (fillOf .powerOn)) = [72, 80, 79, 28, 100, 9, 100, 14] := by decide

/-- The code of R14 over the digits 1 to 9. -/
theorem test_crc16 : crc16 [0x31, 0x32, 0x33, 0x34, 0x35, 0x36, 0x37, 0x38, 0x39] = 0x29B1#16 := by decide +kernel

/-- Section 2.9: bins P, T, Q, S around the top of the table, T dropped: S is found past the tombstone, and the
first usable slot for a further bin of home slot 8190 is the tombstone. -/
theorem test_probe_chain :
    lookupFrom [(0, .live (bin 13 .normal none .none) 0), (1, .live (bin 14 .normal none .none) 0),
      (8190, .live (bin 11 .normal none .none) 0), (8191, .tombstone)] 14 4 ((8190 + 8192 - home 14) % 8192) =
      .found 1 (bin 14 .normal none .none) ∧
    usableFrom [(0, .live (bin 13 .normal none .none) 0), (1, .live (bin 14 .normal none .none) 0),
      (8190, .live (bin 11 .normal none .none) 0), (8191, .tombstone)] 15 5 ((8190 + 8192 - home 15) % 8192) =
      some 8191 := by decide +kernel

/-- Section 6.7: Place of b3 CHECK behind an URGENT and a DUE entry, and its upgrade to URGENT. -/
theorem test_place_and_upgrade :
    insertPlaced (entry 3 .check) [entry 1 .urgent, entry 2 .due] = [entry 1 .urgent, entry 2 .due, entry 3 .check] ∧
    upgradeSide 5 3 (bin 1 .urgent none .placed) .urgent [entry 1 .urgent, entry 2 .due, entry 3 .check] =
      some [entry 1 .urgent, { entry 3 .urgent with placedEpoch := 5, crossing := some 0 }, entry 2 .due] := by
  decide

/-- Section 7.7: b3 and b4 carried into a side that holds b6 and b7 DUE and b8 CHECK. -/
theorem test_carry_over :
    ([entry 3 .due, entry 4 .check].foldl (fun l e => insertCarried { e with carried := true } l)
      [entry 6 .due, entry 7 .due, entry 8 .check]).map (fun e => e.slot) = [3, 6, 7, 4, 8] := by decide

/-- Section 7.8: a release into a full side frees 1, carries 2, displaces 2 and drops 2; 5 pool slots come free. -/
theorem test_release_into_a_full_side :
    let s := (sides State.reset [entry 12 .urgent, entry 13 .due, entry 14 .check, entry 15 .check] .spent
      [entry 1 .urgent, { entry 2 .due with mark := .served }, entry 3 .due, entry 4 .due, entry 5 .check])
    let s := s.setRound 0 { s.round 0 with cap := 4 }
    let done := handBack s 0 0
    done.2 = ⟨1, 2, 2, 2⟩ ∧ (done.1.round 0).fill.map (fun e => e.slot) = [1, 12, 3, 13] ∧
      done.1.free = s.free + 5 := by decide +kernel

/-! ## One step of each command -/

theorem test_laneFrameEnd :
    after (.laneFrameEnd 2 [40, 1, 2]) running (fun s => (s.intake.queue, (s.lane 2).received)) =
      some ([⟨2, 40, [1, 2], false⟩], 1) := by decide +kernel

theorem test_frameTake :
    after .frameTake (queued oneBin [frame 133 0 44 90]) (fun s => (s.intake.inFlight.map (fun x => x.slot),
      s.intake.window.map WindowEntry.copies)) = some (some 5062, [1]) := by decide +kernel

theorem test_frameTake_duplicate :
    after .frameTake (queued (oneBin.setIntake { oneBin.intake with window := [⟨1, 901, 0, 1⟩] })
      [frame 133 0 44 90]) (fun s => (s.intake.window.map WindowEntry.copies, Vec.get s.cond.counts 2,
        s.intake.taken, s.intake.queue)) = some ([2], 1, 1, []) := by decide +kernel

theorem test_applyClaim :
    after (.applyClaim []) (inFlight oneBin 0 44 false) (fun s => match s.table.get 5062 with
      | .live r _ => (r.state, r.fill, r.applied, s.intake.taken)
      | _ => (.unseen, none, 0, 0)) = some (.normal, some 72, 1, 1) := by decide +kernel

/-- A Place; and a CUTOFF NOW between the Serve of a LIFT and the frame's end seals a side without the served entry. -/
theorem test_applyClaim_sheets :
    after (.applyClaim []) (inFlight oneBin 0 36 false) (fun s => ((s.round 0).fill, s.free)) =
      some ([⟨1, 5062, .due, .none, false, some 80, 0, some 0⟩], 4095) ∧
    after (.applyClaim [.sheetRequest])
      (asking (sides (inFlight oneBin 0x40 36 false) [entry 5062 .due, entry 9 .due] .free []) 0x72 [0])
      (fun s => ((s.round 0).fill, (s.round 0).other.map (fun e => e.slot), (s.round 0).otherState,
        s.link.uplink.length)) = some ([], [9], .sealed, 1) := by decide +kernel

theorem test_tick :
    after (.tick []) running (fun s => (s.time.tick, s.time.elapsed, s.time.second)) = some (1, 1, 1) := by
  decide +kernel

/-- Section 5.7: with period 60 and 100 ticks elapsed, the next tick ends the epoch. -/
theorem test_tick_ends_epoch :
    after (.tick []) (running.setTime { running.time with elapsed := 100, period := 60 })
      (fun s => (s.time.elapsed, s.time.epochEndOwed)) = some (101, true) := by decide +kernel

/-- Section 5.7: the epoch end makes epoch 34, and with interval 2 and count 1 a trigger. -/
theorem test_epochEnd :
    after .epochEnd (running.setTime { running.time with
      epoch := 33, elapsed := 101, epochEndOwed := true, interval := 2, postCount := 1 })
      (fun s => (s.time.epoch, s.time.elapsed, s.time.postCount, s.time.triggersOwed)) = some (34, 0, 0, 1) := by
  decide +kernel

theorem test_sweepTrigger :
    after .sweepTrigger (running.setTime { running.time with triggersOwed := 1 })
      (fun s => (s.sweep.running, s.sweep.cursor)) = some (true, 8191) := by decide +kernel

/-- Section 5.8: a round of phase 1 of 2 is cut off at the start of day 43, and not of day 42. -/
theorem test_minuteChange :
    (let s := running.setRound 0 { running.round 0 with enabled := true, postscaler := 2, phase := 1 }
     after .minuteChange (s.setTime { s.time with minuteChangesOwed := [(0, 43)] }) fun s => s.time.cutoffsOwed) =
      some [0] ∧
    (let s := running.setRound 0 { running.round 0 with enabled := true, postscaler := 2, phase := 1 }
     after .minuteChange (s.setTime { s.time with minuteChangesOwed := [(0, 42)] }) fun s => s.time.cutoffsOwed) =
      some [] := by decide +kernel

theorem test_cutoffEvent :
    (let s := sides running [entry 1 .due] .free []
     after (.cutoffEvent 0) (s.setTime { s.time with cutoffsOwed := [0] }) fun s =>
      ((s.round 0).otherState, (s.round 0).other.length, (s.round 0).fillSide, s.time.cutoffsOwed)) =
      some (.sealed, 1, .b, []) := by decide +kernel

theorem test_drawTimerExpiry :
    after (.drawTimerExpiry 0) (reading.setPort 0 ⟨.reading 0, 0, 600, true⟩) (fun s =>
      ((s.port 0).state, (s.round 0).otherState, (s.round 0).bound, Vec.get s.cond.counts 16)) =
      some (.unbound, .sealed, none, 1) := by decide +kernel

/-- Section 9.9: a tombstone before an EMPTY slot is reclaimed. -/
theorem test_sweepVisit :
    after .sweepVisit ((running.setTable [(46, .tombstone)]).setSweep
      ⟨true, 46, some 0, none, 8145, 11, 4, 30, 0⟩) (fun s => (s.table, s.sweep.visited, s.sweep.reclaimed,
        s.sweep.cursor)) = some ([], 8146, 31, 45) := by decide +kernel

/-- A failed check code in slot 0: the part is STOPPED, and the sweep DONE (R161). -/
theorem test_sweepVisit_slotZero :
    after .sweepVisit ((holding running 0 (bin 1 .normal none .none) 1).setSweep
      ⟨true, 0, some 0, none, 8191, 0, 0, 0, 0⟩) (fun s => (s.intake.state, s.sweep.endReason, s.sweep.visited,
        s.notices.sweepDone.set)) = some (.stopped, some .done, 8192, true) := by decide +kernel

/-- Section 9.9: a bin silent for 300 epochs is marked and placed in class CHECK. -/
theorem test_sweepVisit_silence :
    (let s := holding running 44 (bin 1 .normal (some 30) .none) 0
     let s := s.setProfiles (Vec.put s.profiles 0 { Profile.powerOn with checkOnSilence := true })
     after .sweepVisit ((s.setTime { s.time with epoch := 300 }).setSweep
      ⟨true, 44, some 0, none, 8147, 11, 4, 32, 0⟩) fun s => (s.sweep.silenced, s.sweep.placed,
        (s.round 0).fill.map (fun e => e.cls))) = some (12, 5, [.check]) := by decide +kernel

theorem test_linkFrameReceived :
    after (.linkFrameReceived [0x90, 1, 2] (some (crc16 [1, 0, 3, 0x90, 1, 2]))) running (fun s => s.link.downlink) =
      some [⟨0x90, 258, []⟩] ∧
    after (.linkFrameReceived [0x90, 1, 2] none) running (fun s =>
      (s.link.downlink, s.link.badFrames, s.link.rx)) = some ([], 1, .waiting) := by decide +kernel

theorem test_linkIdleTimeout :
    after (.linkIdleTimeout true) running (fun s => s.link.badFrames) = some 1 := by decide +kernel

theorem test_requestTake :
    after .requestTake (running.setLink { running.link with downlink := [⟨0x90, 7, []⟩] }) (fun s =>
      (s.link.handler, s.link.downlink)) = some (.taken ⟨0x90, 7, []⟩, []) := by decide +kernel

theorem test_unknownRequest : response .unknownRequest (asking running 0x14 []) = some [0x14, 0, 7, 9] := by
  decide +kernel

theorem test_uplinkFrameSent :
    after .uplinkFrameSent (running.setLink { running.link with uplink := [⟨.relay, [2]⟩] }) (fun s =>
      (s.link.uplink, s.link.relaysSent, s.txOut.bytes)) =
      some ([], 1, some ([0x83, 0, 1, 2] ++ be16 (crc16 [0x83, 0, 1, 2]).toNat)) := by decide +kernel

theorem test_noticeBuild :
    after .noticeBuild (running.setNotices { running.notices with
      sweepDone := ⟨true, true⟩, list := [.sweepDone] }) (fun s => (s.link.uplink, s.notices.list)) =
      some ([⟨.notice, [6, 0, 0, 0, 0, 0, 0, 0, 0, 0, 0, 0, 0, 0]⟩], []) := by decide +kernel

theorem test_hold : after .hold (asking running 0x10 []) (fun s => (s.intake.state, s.notices.heldCause)) =
    some (.held .request, some .request) := by decide +kernel

theorem test_resume : after .resume (asking State.reset 0x11 []) (fun s => s.intake.state) = some .run := by
  decide +kernel

theorem test_step :
    after .step (asking (queued (withState (.held .request)) [frame 133 1 44 90]) 0x12 []) (fun s =>
      (s.intake.state, s.intake.taken, Vec.get s.cond.counts 1)) = some (.held .step, 1, 1) := by decide +kernel

theorem test_windowRead :
    response .windowRead (asking (running.setIntake { running.intake with window := [⟨1, 77, 1000, 3⟩] }) 0x13 [0]) =
      some [0x13, 0, 7, 0, 1, 1, 0, 0, 0, 1, 0, 77, 0, 0, 3, 232, 3] := by decide +kernel

theorem test_binPut :
    after .binPut (asking running 0x20 [0, 0, 0, 1, 1, 63, 15, 0]) (fun s => s.table.map fun p => p.1) =
      some [5062] ∧
    response .binPut (asking running 0x20 [0, 0, 0, 1, 1, 63, 15, 0]) = some [0x20, 0, 7, 0, 19, 198, 1, 0] := by
  decide +kernel

/-- A cut-off of the old round between the Withdraw and the failed Place of a bin that BIN PUT moves: the waiting port
opens a side that no longer holds the bin's entry. -/
theorem test_binPut_cutoff_between :
    (let s := holding (sides waiting [entry 5062 .due, entry 9 .due] .free []) 5062 (bin 1 .due (some 85) .placed) 0
     let s := s.setRound 5 { s.round 5 with cap := 1, fill := [entry 8 .urgent] }
     after (.binPut [.cutoff 0]) (asking (s.setTime { s.time with cutoffsOwed := [0] }) 0x20 [0, 0, 0, 1, 0, 5, 0, 0])
      fun s => ((s.round 0).other, (s.port 0).state, Vec.get s.cond.counts 13)) =
      some ([entry 9 .due], .reading 0, 1) := by decide +kernel

theorem test_binGet :
    response .binGet (asking oneBin 0x21 [0, 0, 0, 2]) = some [0x21, 0, 7, 3] ∧
    (response .binGet (asking oneBin 0x21 [0, 0, 0, 1])).map (List.take 7) =
      some [0x21, 0, 7, 0, 19, 198, 0] := by decide +kernel

theorem test_binDrop :
    after .binDrop (asking oneBin 0x22 [0, 0, 0, 1]) (fun s => s.table) = some [(5062, .tombstone)] := by
  decide +kernel

theorem test_tableRead :
    (response .tableRead (asking oneBin 0x23 [19, 198])).map (List.take 24) =
      some [0x23, 0, 7, 0, 31, 255, 0, 1, 0, 0, 0, 0, 0, 0, 0, 0, 0, 1, 0, 0, 0, 0, 1, 0] := by decide +kernel

theorem test_profilePut :
    after .profilePut (asking running 0x30 [15, 0, 80, 0, 10, 75, 50, 95, 100, 2, 2, 64, 0, 0]) (fun s =>
      Vec.get s.profiles 15) = some ⟨80, 10, 75, 50, 95, 100, 2, 576, false, false⟩ := by decide +kernel

theorem test_profileGet :
    response .profileGet (asking running 0x31 [15]) =
      some [0x31, 0, 7, 0, 15, 0, 120, 0, 15, 80, 60, 98, 100, 2, 1, 32, 0, 1] := by decide +kernel

theorem test_bind :
    response .bind (asking (sides running [] .sealed [entry 1 .due]) 0x40 [3, 0]) =
      some [0x40, 0, 7, 0, 2, 1, 1, 0] := by decide +kernel

theorem test_unbind :
    after .unbind (asking reading 0x41 [0]) (fun s => ((s.port 0).state, (s.round 0).otherState)) =
      some (.unbound, .sealed) := by decide +kernel

theorem test_draw :
    after .draw (asking reading 0x42 [0, 1]) (fun s => s.port 0) = some ⟨.reading 0, 1, 0, false⟩ ∧
    after .draw (asking reading 0x42 [0, 2]) (fun s => s.port 0) = some ⟨.exhausted 0, 2, 0, false⟩ := by
  decide +kernel

/-- The 16 bytes of section 10.8: URGENT, not marked, no fill at placement, a current fill of 97. -/
theorem test_draw_bytes :
    response .draw (asking (holding reading 1 (bin 1 .urgent (some 97) .placed) 0) 0x42 [0, 1]) =
      some [0x42, 0, 7, 0, 1, 0, 1, 0, 0, 0, 1, 0, 255, 97, 0, 0, 0, 0, 0, 0, 0, 0, 0] := by decide +kernel

theorem test_rewind :
    after .rewind (asking atEnd 0x43 [0]) (fun s => (s.port 0, (s.round 0).otherState)) =
      some (⟨.reading 0, 0, 0, false⟩, .opened) := by decide +kernel

theorem test_release :
    after .release (asking atEnd 0x44 [0]) (fun s => ((s.port 0).state, (s.round 0).otherState,
      (s.round 0).fill.map Entry.carried)) = some (.waiting 0, .free, [true, true]) := by decide +kernel

theorem test_portGet :
    response .portGet (asking reading 0x45 [0]) =
      some [0x45, 0, 7, 0, 2, 0, 0, 0, 3, 1, 2, 0, 2, 2, 88] := by decide +kernel

theorem test_clockSet :
    after .clockSet (asking running 0x50 [1, 192, 0, 43]) (fun s => (s.time.second, s.time.minute, s.time.day)) =
      some (0, 448, 43) := by decide +kernel

theorem test_timeGet :
    response .timeGet (asking running 0x51 []) =
      some [0x51, 0, 7, 0, 0, 0, 0, 0, 0, 0, 0, 0, 0, 0, 1, 44, 1, 0, 0, 0, 0, 0, 0] := by decide +kernel

/-- TIME GET takes an epoch end still owed, so that a later reader sees the same epoch. -/
theorem test_timeGet_takes_epoch_end :
    after .timeGet (asking (running.setTime { running.time with epoch := 33, elapsed := 300, epochEndOwed := true })
      0x51 []) (fun s => (s.time.epoch, s.time.elapsed, s.time.epochEndOwed, s.time.triggersOwed)) =
      some (34, 0, false, 1) := by decide +kernel

theorem test_rulePut :
    after .rulePut (asking running 0x60 [9, 3, 1]) (fun s => Vec.get s.cond.rows 9) = some ⟨.hold, .note⟩ := by
  decide +kernel

theorem test_ruleGet :
    response .ruleGet (asking running 0x61 [3]) = some [0x61, 0, 7, 0, 2, 0, 1] ∧
    response .ruleGet (asking running 0x61 [18]) = some [0x61, 0, 7, 0, 5, 5, 1] ∧
    response .ruleGet (asking running 0x61 [19]) = some [0x61, 0, 7, 2] := by decide +kernel

theorem test_maskPut :
    after .maskPut (asking running 0x62 [2, 0, 1]) (fun s => (Vec.get s.cond.mask 0, Vec.get s.cond.mask 1,
      Vec.get s.cond.mask 17)) = some (true, false, true) ∧
    after .maskPut (asking (deferring running 3) 0x62 [0, 0, 0]) (fun s => (Vec.get s.cond.deferred 14)) =
      some ⟨0, none⟩ := by decide +kernel

theorem test_conditionRead :
    (response .conditionRead (asking running 0x63 [0])).map List.length = some 265 := by decide +kernel

theorem test_roundPut :
    after .roundPut (asking running 0x70 [63, 1, 1, 104, 2, 1, 5, 1]) (fun s =>
      ((s.round 63).enabled, (s.round 63).cutoffMinute, (s.round 63).cap)) = some (true, 360, 5) := by
  decide +kernel

theorem test_roundGet :
    response .roundGet (asking reading 0x71 [0]) =
      some [0x71, 0, 7, 0, 0, 0, 0, 1, 0, 64, 0, 0, 0, 0, 0, 0, 0, 0, 3, 2, 0, 1, 1, 0, 0, 0, 0, 0, 0, 0, 0, 0, 0, 0,
        0, 0, 0] := by decide +kernel

theorem test_cutoffNow :
    response .cutoffNow (asking running 0x72 [0]) = some [0x72, 0, 7, 0, 2, 0, 0, 0, 1] ∧
    response .cutoffNow (asking reading 0x72 [0]) = some [0x72, 0, 7, 0, 3, 0, 0] := by decide +kernel

theorem test_sweep : after .sweep (asking running 0x80 []) (fun s => s.sweep.running) = some true := by
  decide +kernel

theorem test_sweepAbort :
    after .sweepAbort (asking (running.setSweep ⟨true, 46, some 0, none, 8145, 0, 0, 0, 0⟩) 0x81 []) (fun s =>
      (s.sweep.running, s.sweep.endReason, s.sweep.cursor)) = some (false, some .aborted, 46) := by decide +kernel

theorem test_sweepReport :
    (response .sweepReport (asking running 0x82 [])).map List.length = some 33 := by decide +kernel

theorem test_status :
    (response (.status allStatusItems) (asking stopped 0x90 [])).map (List.take 7) =
      some [0x90, 0, 7, 0, 2, 0xFF, 1] := by
  decide +kernel

/-- A frame enters and an epoch ends between the reading of the Intake Queue and of the rest: the counts of the answer
are those before, while the epoch read later is the new one (R185). -/
theorem test_status_between :
    (match exec (.status [.conditionStatuses, .intakeQueue]) (asking running 0x90 []) with
      | .next t => (response (.status allStatusItems)
          ((queued t [frame 133 0 44 90]).setTime { t.time with epoch := 1 })).map fun l => (l.drop 7).take 17
      | _ => none) = some [0, 0, 0, 0, 0, 0, 0, 0, 0, 0, 0, 31, 255, 0, 0, 0, 1] := by decide +kernel

theorem test_counters :
    after .counters (asking (running.setEmptyCutoffs 5) 0x91 [1]) (fun s => s.emptyCutoffs) = some 0 := by
  decide +kernel

theorem test_laneEnable :
    after .laneEnable (asking running 0x92 [1, 0, 5]) (fun s => [(s.lane 0).enabled, (s.lane 1).enabled,
      (s.lane 2).enabled, (s.lane 3).enabled]) = some [true, false, true, false] := by decide +kernel

theorem test_dedupHold :
    after .dedupHold (asking running 0x92 [2, 0, 60]) (fun s => s.intake.dedupHold) = some 60 := by decide +kernel

/-- Section 5.7: a period of 5 is stored as 10. -/
theorem test_epochPeriod :
    response .epochPeriod (asking running 0x92 [3, 0, 5]) = some [0x92, 0, 7, 0, 3, 0, 10] := by decide +kernel

theorem test_sweepInterval :
    after .sweepInterval (asking (running.setTime { running.time with postCount := 1, interval := 2 }) 0x92
      [4, 0, 3]) (fun s => (s.time.interval, s.time.postCount)) = some (3, 0) := by decide +kernel

theorem test_drawIdleLimit :
    after .drawIdleLimit (asking running 0x92 [5, 0, 9]) (fun s => s.drawTimeout) = some 10 := by decide +kernel

theorem test_settingGet : response .settingGet (asking running 0x93 [5]) = some [0x93, 0, 7, 0, 5, 2, 88] := by
  decide +kernel

theorem test_noticeEnable :
    after .noticeEnable (asking (running.setNotices { running.notices with stopped := ⟨true, false⟩ }) 0x94
      [2, 0, 4]) (fun s => (s.notices.stopped.enabled, s.notices.list)) = some (true, [.stopped]) := by
  decide +kernel

theorem test_noticeClear :
    response .noticeClear (asking (running.setNotices { running.notices with stopped := ⟨true, true⟩ }) 0x95
      [4, 0, 2]) = some [0x95, 0, 7, 0, 1] := by decide +kernel

theorem test_restart :
    after (.restart 7) (asking (stopped.setTable [(5, .damaged), (9, .live (bin 1 .due none .placed) 0)]) 0x9F [])
      (fun s => (s.intake.state, s.table.map fun p => p.2.isLive, s.link.handler)) =
      some (.held .restart, [false, true], .idle) := by decide +kernel

theorem test_rstAssert :
    after .rstAssert stopped (fun s => (s.rstLow, s.stopPin)) = some (true, false) := by decide +kernel

theorem test_rstRelease :
    after (.rstRelease true [2]) (stopped.setRstLow true) (fun s => (s.rstLow, s.rateHigh, (s.lane 2).blind,
      s.intake.state)) = some (false, true, true, .held .start) := by decide +kernel

theorem test_badFrameBeforeCrc :
    after (.badFrameBeforeCrc .missingStop) running (fun s => (s.link.rx, s.link.badFrames)) =
      some (.discarding, 1) := by decide +kernel

theorem test_settingPutUnknownItem :
    response .settingPutUnknownItem (asking running 0x92 [6, 0, 0]) = some [0x92, 0, 7, 2] := by decide +kernel

theorem test_step_runs_front_command :
    step (running.setPending [.frameTake, .hold]) = exec .frameTake (running.setPending [.hold]) := by rfl

/-! ## States that meet the hypotheses of the statements

One theorem for each statement, with a state and operands for each clause, at a boundary of its range. -/

/-- The request is in hand and the state satisfies the test. -/
def Meets (code : Byte) (operands : List Byte) (s : State) (h : State → Bool) : Prop :=
  Asked (asking s code operands) code 7 operands ∧ h (asking s code operands) = true

theorem mayTake {s : State} (h : s.rstLow = false ∧ s.intake.state = .run ∧ s.intake.inFlight = none ∧
    s.intake.holdWaiting = none ∧ s.link.handler = .idle) : MayTake s := by
  obtain ⟨h1, h2, h3, h4, h5⟩ := h
  refine ⟨h1, h2, h3, h4, by simp [State.restarting, h5], ?_, ?_⟩ <;> intro tag <;> simp [h5]

theorem meets_StepRunsFrontCommand :
    (running.setPending [.hold, .frameTake]).pending = .hold :: [.frameTake] ∧ running.pending = [] := by decide

theorem meets_CommandsCompleteOrNameAbsentThing : (Instr.laneFrameEnd 3 []).wellFormed = true ∧ 4 ≤ 4 ∧ 64 ≤ 64 := by
  decide

theorem meets_LowResetIgnoresCommands : (running.setRstLow true).rstLow = true ∧ Instr.rstAssert.wellFormed = true ∧
    ∀ h a, Instr.rstAssert ≠ .rstRelease h a := ⟨rfl, rfl, by intro h a; simp⟩

theorem meets_ResetAssertAndRelease :
    (running.setLink { running.link with uplink := [⟨.relay, []⟩] }).rstLow = false ∧
    (running.setLink { running.link with uplink := [⟨.relay, []⟩] }).link.uplink = ⟨.relay, []⟩ :: [] ∧
    (running.setRstLow true).rstLow = true := by decide

/-- A queue of `n` frames. -/
def deep (n : Nat) : State := queued running (List.replicate n (frame 133 0 44 90))

/-- Lane 2 with a part changed. -/
def laneTwo (s : State) (f : Lane → Lane) : State := s.setLane 2 (f (s.lane 2))

theorem meets_LaneFrameOutcomes :
    ((laneTwo running fun l => { l with blind := true }).rstLow = false ∧
      ((laneTwo running fun l => { l with blind := true }).lane 2).blind = true) ∧
    (running.lane 2).blind = false ∧
    ((laneTwo running fun l => { l with enabled := false }).lane 2).enabled = false ∧
    ((deep 255).lane 2).enabled = true ∧ (deep 255).intake.queue.length < 256 ∧
    256 ≤ (deep 256).intake.queue.length := by decide +kernel

theorem meets_FrameChecksFollowTheRules :
    (⟨0, 0, [], true⟩ : LaneFrame).overlong = true ∧ (⟨0, 0, List.replicate 12 0, false⟩ : LaneFrame).bytes.length ≠ 13 ∧
    checkForm (frame 133 7 44 90) = .error .formBad ∧ checkForm { frame 133 0 44 90 with bytes := List.replicate 13 1 } =
      .error .crcBad ∧
    checkForm (frame 133 0 44 101) = .error .formBad ∧ checkForm (frame 133 0xF8 255 100) =
      .ok ⟨1, 901, .glass, true, true, true, true, 255, 100⟩ ∧
    ([0, 900, 901, 902, 33667, 33668, 899].map (checkSeq (bin 1 .normal none .none))) =
      [.pass, .stale, .pass, .gap, .gap, .stale, .stale] ∧
    checkSeq (bin 1 .unseen none .none) 5 = .pass := by decide +kernel

theorem meets_FrameTakeAccepts :
    let s := queued oneBin [frame 133 0 44 90]
    MayTake s ∧ s.intake.queue = frame 133 0 44 90 :: [] ∧ checkForm (frame 133 0 44 90) = .ok (sensed 133 0 44 90) ∧
    ¬ InWindow s (sensed 133 0 44 90) ∧
    lookup s.table 1 = .found 5062 (bin 1 .normal (some 57) .none) ∧
    checkSeq (bin 1 .normal (some 57) .none) (sensed 133 0 44 90).seq ≠ .stale :=
  ⟨mayTake (by decide), rfl, by decide +kernel, by unfold InWindow; decide, by decide +kernel, by decide⟩

theorem meets_FrameTakeRefuses :
    (MayTake (queued oneBin [frame 133 1 44 90]) ∧ checkForm (frame 133 1 44 90) = .error .formBad ∧
      oneBin.cond.action .formBad = .record) ∧
    (MayTake (queued (oneBin.setIntake { oneBin.intake with window := [⟨2, 5, 0, 1⟩, ⟨1, 901, 0, 255⟩] })
        [frame 133 0 44 90]) ∧ oneBin.cond.action .duplicate = .record) ∧
    (let s := oneBin.setCond { oneBin.cond with mask := Vector.replicate 18 false }
     MayTake (queued s [frame 133 0x80 44 90]) ∧ s.cond.action .noBin = .record ∧ s.cond.action .kindClash = .record ∧
      lookup running.table 1 = .notFound ∧ checkForm (frame 133 0x80 44 90) = .ok { sensed 133 0x80 44 90 with kind := .glass } ∧
      lookup s.table 1 = .found 5062 (bin 1 .normal (some 57) .none)) ∧
    (oneBin.cond.action .staleSeq = .record ∧
      checkSeq (bin 1 .normal (some 57) .none) (sensed 132 0 44 90).seq = .stale) ∧
    State.reset.intake.state ≠ .run ∧ running.intake.queue = [] ∧
    (inFlight oneBin 0 44 false).intake.inFlight ≠ none ∧
    (∃ tag done lost, (running.setLink { running.link with handler := .restarting 7 2 0 }).link.handler =
      .restarting tag done lost) :=
  ⟨⟨mayTake (by decide), by decide +kernel, by decide⟩, ⟨mayTake (by decide), by decide⟩,
    ⟨mayTake (by decide), by decide, by decide, by decide +kernel, by decide +kernel, by decide +kernel⟩,
    ⟨by decide, by decide⟩, by decide, by decide, by decide, ⟨7, 2, 0, rfl⟩⟩

/-- KIND_CLASH has NOTE at power-on: its status is set with the bin as subject (R66). -/
theorem test_frameTake_kindClash :
    after .frameTake (queued oneBin [frame 133 0x80 44 90]) (fun s =>
      (s.intake.taken, Vec.get s.notices.conds 4)) = some (1, ⟨true, some (.bin 1), 1⟩) := by decide +kernel

/-- `n` relays in the Uplink Queue. -/
def relays (s : State) (n : Nat) : State :=
  s.setLink { s.link with uplink := List.replicate n ⟨.relay, []⟩ }

theorem meets_UnknownBinIsRelayed :
    let s := queued running [frame 133 0 44 90]
    MayTake (relays s 55) ∧ MayTake (relays s 56) ∧ checkForm (frame 133 0 44 90) = .ok (sensed 133 0 44 90) ∧
    ¬ InWindow s (sensed 133 0 44 90) ∧ lookup s.table 1 = .notFound ∧ s.cond.action .noBin = .relay :=
  ⟨mayTake (by decide), mayTake (by decide), by decide +kernel, by unfold InWindow; decide, by decide +kernel,
    by decide⟩

theorem meets_HoldAndResume :
    Meets 0x10 [] running (fun s => s.intake.state = .run ∧ s.intake.inFlight = none) ∧
    Meets 0x10 [] (inFlight oneBin 0 44 false) (fun s => s.intake.state = .run ∧ s.intake.inFlight ≠ none) ∧
    Meets 0x10 [] State.reset (fun s => s.intake.state = .held .start) ∧
    Meets 0x10 [] stopped (fun s => s.intake.state = .stopped) ∧
    Meets 0x11 [] State.reset (fun s => s.intake.state = .held .start) ∧
    Meets 0x11 [] running (fun s => s.intake.state = .run) ∧
    Meets 0x11 [] stopped (fun s => s.intake.state = .stopped) := by
  simp only [Meets, Asked]; decide +kernel

/-- `s` held since the start. -/
def heldAtStart (s : State) : State := s.setIntake { s.intake with state := .held .start }

theorem meets_StepTakesOneFrame :
    (let s := queued (heldAtStart oneBin) [frame 133 0 44 90]
     Meets 0x12 [] s (fun s => s.intake.state = .held .start ∧ s.intake.queue = [frame 133 0 44 90] ∧
        lookup s.table 1 = .found 5062 (bin 1 .normal (some 57) .none)) ∧ ¬ InWindow s (sensed 133 0 44 90)) ∧
    Meets 0x12 [] (queued State.reset [frame 133 1 44 90]) (fun s => s.intake.holdWaiting = none ∧
      s.cond.action .formBad = .record ∧ checkForm (frame 133 1 44 90) matches .error .formBad) ∧
    Meets 0x12 [] (armed (queued State.reset [frame 133 1 44 90]) .formBad .relay) (fun s =>
      s.intake.queue = [frame 133 1 44 90] ∧ s.cond.action .formBad = .relay) ∧
    (let s := queued (heldAtStart oneBin) [frame 133 0 44 90]
     Meets 0x12 [] (s.setIntake { s.intake with window := [⟨2, 5, 0, 1⟩, ⟨1, 901, 0, 255⟩] }) (fun s =>
      s.intake.window = [⟨2, 5, 0, 1⟩] ++ ⟨1, 901, 0, 255⟩ :: [] ∧
      checkForm (frame 133 0 44 90) = .ok (sensed 133 0 44 90) ∧ (sensed 133 0 44 90).seq = 901)) ∧
    (Meets 0x12 [] (queued State.reset [frame 133 0 44 90]) (fun s => lookup s.table 1 = .notFound) ∧
      ¬ InWindow State.reset (sensed 133 0 44 90)) ∧
    Meets 0x12 [] (queued (heldAtStart oneBin) [frame 133 0x80 44 90]) (fun s => s.intake.state = .held .start ∧
      checkForm (frame 133 0x80 44 90) = .ok { sensed 133 0x80 44 90 with kind := .glass } ∧
      lookup s.table 1 = .found 5062 (bin 1 .normal (some 57) .none)) ∧
    Meets 0x12 [] (queued (heldAtStart oneBin) [frame 132 0 44 90]) (fun s => s.intake.state = .held .start ∧
      checkForm (frame 132 0 44 90) = .ok (sensed 132 0 44 90) ∧
      lookup s.table 1 = .found 5062 (bin 1 .normal (some 57) .none) ∧
      checkSeq (bin 1 .normal (some 57) .none) (sensed 132 0 44 90).seq = .stale) ∧
    Meets 0x12 [] (queued (heldAtStart (holding running 5062 (bin 1 .normal (some 57) .none) 1)) [frame 133 0 44 90])
      (fun s => s.intake.state = .held .start ∧ lookup s.table 1 = .error 5062) ∧
    Meets 0x12 [] State.reset (fun s => s.intake.state = .held .start ∧ s.intake.queue = []) ∧
    Meets 0x12 [] running (fun s => s.intake.state = .run) ∧
    Meets 0x12 [] stopped (fun s => s.intake.state = .stopped) := by
  simp only [Meets, Asked, InWindow]; decide +kernel

/-- A stepped frame whose lookup meets a failed check code is answered STOPPED (R12). -/
theorem test_step_stopped :
    response .step (asking (queued (heldAtStart (holding running 5062 (bin 1 .normal (some 57) .none) 1))
      [frame 133 0 44 90]) 0x12 []) = some [0x12, 0, 7, 8] := by decide +kernel

theorem meets_WindowReadReturnsEntries :
    Meets 0x13 [127] running (fun _ => (127#8).toNat ≤ 127) ∧ Meets 0x13 [128] running (fun _ => 127 < (128#8).toNat) := by
  simp only [Meets, Asked]; decide

/-! ### The Bin Table -/

/-- Bin 1's probe window filled with one kind of slot. -/
def filled (v : Slot) : BinTable := (List.range 24).map fun n => (5062 + n, v)

theorem meets_LookupFollowsProbeWindow :
    (∀ d < 23, passesOver ((filled .tombstone).take 23 ++ [(5085, .live (bin 1 .normal none .none) 0)]) 1 d) ∧
    BinTable.get ((filled .tombstone).take 23 ++ [(5085, .live (bin 1 .normal none .none) 0)]) (probeSlot (home 1) 23) =
      .live (bin 1 .normal none .none) 0 ∧
    BinTable.get [(5062, .live (bin 1 .normal none .none) 3)] (probeSlot (home 1) 0) =
      .live (bin 1 .normal none .none) 3 ∧
    BinTable.get [] (probeSlot (home 1) 0) = .empty ∧
    (∀ d < 24, passesOver (filled .damaged) 1 d) ∧
    ((BinTable.get (filled (.live (bin 2 .normal none .none) 0)) (probeSlot (home 1) 23)).isLive = true) ∧
    (∀ d < 24, BinTable.get (filled .damaged) (probeSlot (home 1) d) = .damaged) ∧
    BinTable.get ((filled .damaged).take 23 ++ [(5085, .tombstone)]) (probeSlot (home 1) 23) = .tombstone := by
  refine ⟨?_, by decide +kernel, by decide +kernel, by decide +kernel, ?_, by decide +kernel, by decide +kernel,
    by decide +kernel⟩
  · intro d hd
    have : ∀ d < 23, BinTable.get ((filled .tombstone).take 23 ++ [(5085, .live (bin 1 .normal none .none) 0)])
        (probeSlot (home 1) d) = .tombstone := by decide +kernel
    exact Or.inl (this d hd)
  · intro d hd
    have : ∀ d < 24, BinTable.get (filled .damaged) (probeSlot (home 1) d) = .damaged := by decide +kernel
    exact Or.inr (Or.inl (this d hd))

/-- `s` with a table. -/
def tabled (s : State) (t : BinTable) : State := s.setTable t

theorem meets_BinPutInsertsRecord :
    Meets 0x20 [0, 0, 0, 1, 0, 0, 0, 0] stopped (fun s => s.intake.state = .stopped) ∧
    Meets 0x20 [0, 0, 0, 0, 0, 0, 0, 0] running (fun s => s.intake.state ≠ .stopped) ∧
    Meets 0x20 [255, 255, 255, 255, 0, 0, 0, 0] running (fun _ => (255#8 ++ 255#8 ++ 255#8 ++ 255#8) = 0xFFFFFFFF#32) ∧
    Meets 0x20 [0, 0, 0, 1, 2, 0, 0, 0] running (fun _ => 1 < (2#8).toNat) ∧
    Meets 0x20 [0, 0, 0, 1, 0, 64, 0, 0] running (fun _ => 63 < (64#8).toNat ∧ 64#8 ≠ 255#8) ∧
    Meets 0x20 [0, 0, 0, 1, 0, 0, 16, 0] running (fun _ => 15 < (16#8).toNat) ∧
    Meets 0x20 [0, 0, 0, 1, 0, 0, 0, 2] running (fun _ => 1 < (2#8).toNat) ∧
    Meets 0x20 [0, 0, 0, 1, 1, 63, 15, 1] running (fun s => lookup s.table 1 = .notFound ∧
      usableSlot s.table 1 = some 5062 ∧ BinKind.glass.code = 1#8 ∧ indexByte (some 63 : Option (Fin 64)) = 63#8 ∧
      byte 15 = 15#8) ∧
    Meets 0x20 [0, 0, 0, 1, 0, 255, 0, 0] (tabled running (filled .damaged)) (fun s =>
      lookup s.table 1 = .notFound ∧ usableSlot s.table 1 = none ∧ indexByte (none : Option (Fin 64)) = 255#8) ∧
    Meets 0x20 [0, 0, 0, 1, 1, 63, 15, 1] (holding running 5062 (bin 1 .normal (some 57) .none) 1) (fun s =>
      s.intake.state ≠ .stopped ∧ lookup s.table 1 = .error 5062) := by
  simp only [Meets, Asked]; decide +kernel

/-- Bin 1 DUE and not placed. -/
def dueBin : State := holding running 5062 (bin 1 .due (some 85) .none) 0

theorem meets_BinPutChangesRecord :
    Meets 0x20 [0, 0, 0, 1, 1, 0, 15, 0] dueBin (fun s =>
      lookup s.table 1 = .found 5062 (bin 1 .due (some 85) .none) ∧ (bin 1 .due (some 85) .none).round = some 0) ∧
    Meets 0x20 [0, 0, 0, 1, 1, 255, 15, 0] dueBin (fun _ => (none : Option (Fin 64)) ≠ some 0) ∧
    Meets 0x20 [0, 0, 0, 1, 0, 5, 0, 0] oneBin (fun s =>
      lookup s.table 1 = .found 5062 (bin 1 .normal (some 57) .none) ∧ (bin 1 .normal (some 57) .none).silent = false) ∧
    Meets 0x20 [0, 0, 0, 1, 0, 5, 0, 0] dueBin (fun s =>
      (place (detach s 5062 .withdrawn) 5062 { bin 1 .due (some 85) .none with round := some 5 } .due).2 = .added ∧
      (place (detach s 5062 .withdrawn) 5062 { bin 1 .due (some 85) .none with round := some 5 } .due).1.intake.state ≠
        .stopped) ∧
    Meets 0x20 [0, 0, 0, 1, 0, 5, 0, 0] (dueBin.setTime { dueBin.time with cutoffsOwed := [0] }) (fun s =>
      (place ([SheetEvent.cutoff 0, .expiry 3].foldl takeSheetEvent (detach s 5062 .withdrawn)) 5062
        { bin 1 .due (some 85) .none with round := some 5 } .due).2 = .added) ∧
    Meets 0x20 [0, 0, 0, 1, 0, 5, 0, 0] (dueBin.setFree 0) (fun s =>
      (place (detach s 5062 .withdrawn) 5062 { bin 1 .due (some 85) .none with round := some 5 } .due).2 = .failed ∧
      (place (detach s 5062 .withdrawn) 5062 { bin 1 .due (some 85) .none with round := some 5 } .due).1.intake.state ≠
        .stopped) ∧
    (let s := holding dueBin 9 (bin 3 .normal none .placed) 1
     let s := s.setRound 5 { s.round 5 with cap := 1, fill := [entry 9 .check] }
     Meets 0x20 [0, 0, 0, 1, 0, 5, 0, 0] s (fun s =>
      (place (detach s 5062 .withdrawn) 5062 { bin 1 .due (some 85) .none with round := some 5 } .due).2 = .added ∧
      (place (detach s 5062 .withdrawn) 5062 { bin 1 .due (some 85) .none with round := some 5 } .due).1.intake.state =
        .stopped ∧
      (s.round 5).cap ≤ (s.round 5).fill.length ∧ (s.round 5).fill = [] ++ [entry 9 .check] ∧
      EntryClass.due.rank < (entry 9 .check).cls.rank ∧ s.table.get 9 = .live (bin 3 .normal none .placed) 1)) ∧
    noEntry (detach dueBin 5062 .withdrawn) 5062 ∧
    Meets 0x20 [0, 0, 0, 1, 0, 5, 0, 1] dueBin (fun s =>
      lookup s.table 1 = .found 5062 (bin 1 .due (some 85) .none)) := by
  simp only [Meets, Asked, noEntry]; decide +kernel

/-- Bin 1, PLACED in round 0, is to move to round 5 at cap, whose last entry's slot 9 has a failed check code. -/
def movingToFailed : State :=
  let s := holding (holding running 5062 (bin 1 .due (some 85) .placed) 0) 9 (bin 3 .normal none .placed) 1
  let s := (sides s [entry 5062 .due] .free []).setFree 4094
  s.setRound 5 { s.round 5 with cap := 1, fill := [entry 9 .check] }

/-- A displaced bin's failed check code in a move: STOPPED, the record and its entry as they were, the failing slot
DAMAGED and its entry withdrawn (R30, R35). -/
theorem test_binPut_displacedError :
    response .binPut (asking movingToFailed 0x20 [0, 0, 0, 1, 0, 5, 0, 0]) = some [0x20, 0, 7, 8] ∧
    after .binPut (asking movingToFailed 0x20 [0, 0, 0, 1, 0, 5, 0, 0]) (fun t => (t.table.get 5062, t.table.get 9)) =
      some (.live (bin 1 .due (some 85) .placed) 0, .damaged) ∧
    after .binPut (asking movingToFailed 0x20 [0, 0, 0, 1, 0, 5, 0, 0]) (fun t =>
      ((t.round 0).fill, (t.round 5).fill, (t.round 5).displaced, t.free)) =
      some ([entry 5062 .due], [], 0, 4095) := by decide +kernel

/-- Bin 1 in its home slot with a failed check code. -/
def badBin : State := holding running 5062 (bin 1 .normal (some 57) .none) 1

theorem meets_BinGetReturnsRecord :
    Meets 0x21 [0, 0, 0, 0] running (fun _ => (0#8 ++ 0#8 ++ 0#8 ++ 0#8) = 0#32) ∧
    Meets 0x21 [255, 255, 255, 255] running (fun _ => (255#8 ++ 255#8 ++ 255#8 ++ 255#8) = 0xFFFFFFFF#32) ∧
    Meets 0x21 [0, 0, 0, 1] running (fun s => lookup s.table 1 = .notFound) ∧
    Meets 0x21 [0, 0, 0, 1] oneBin (fun s => lookup s.table 1 = .found 5062 (bin 1 .normal (some 57) .none)) ∧
    Meets 0x21 [0, 0, 0, 1] badBin (fun s => lookup s.table 1 = .error 5062) := by
  simp only [Meets, Asked]; decide +kernel

theorem meets_BinDropDeletesRecord :
    Meets 0x22 [0, 0, 0, 1] stopped (fun s => s.intake.state = .stopped) ∧
    Meets 0x22 [0, 0, 0, 0] running (fun s => s.intake.state ≠ .stopped) ∧
    Meets 0x22 [0, 0, 0, 1] running (fun s => lookup s.table 1 = .notFound) ∧
    Meets 0x22 [0, 0, 0, 1] badBin (fun s => lookup s.table 1 = .error 5062) ∧
    Meets 0x22 [0, 0, 0, 1] (inFlight oneBin 0 44 false) (fun s =>
      lookup s.table 1 = .found 5062 (bin 1 .normal (some 57) .none) ∧ s.intake.state ≠ .stopped) := by
  simp only [Meets, Asked]; decide +kernel

theorem meets_TableReadReturnsSlots :
    Meets 0x23 [0x20, 0] running (fun _ => 8191 < (0x20#8 ++ 0#8).toNat) ∧
    Meets 0x23 [0x1F, 0xFF] running (fun s => (0x1F#8 ++ 0xFF#8).toNat ≤ 8191 ∧
      s.table.get ((8191 + 0) % 8192) = .empty) ∧
    Meets 0x23 [0x13, 0x87] badBin (fun s => (0x13#8 ++ 0x87#8).toNat = 4999 ∧
      s.table.get ((4999 + 63) % 8192) = .live (bin 1 .normal (some 57) .none) 1 ∧
      (List.range 63).all fun n => s.table.get ((4999 + n) % 8192) = .empty) := by
  simp only [Meets, Asked]; decide +kernel

theorem meets_StorageErrorStopsPart :
    oneBin.rstLow = false ∧ oneBin.table.wf ∧ 8191 < 8192 ∧
    (let s := queued badBin [frame 133 0 44 90]
     MayTake s ∧ s.intake.queue = frame 133 0 44 90 :: [] ∧ checkForm (frame 133 0 44 90) = .ok (sensed 133 0 44 90) ∧
      ¬ InWindow s (sensed 133 0 44 90) ∧ lookup s.table 1 = .error 5062) :=
  ⟨rfl, BinTable.put_wf _ _ _ ⟨List.Pairwise.nil, by intro p hp; cases hp⟩ (fun _ => by decide), by decide,
    mayTake (by decide), rfl, by decide +kernel, by unfold InWindow; decide, by decide +kernel⟩

/-! ### Readings -/

theorem meets_FillOfDistance : Profile.powerOn.fullDepth < Profile.powerOn.emptyDepth ∧ Profile.powerOn.emptyDepth ≤ 120 ∧
    15 ≤ Profile.powerOn.fullDepth ∧ Profile.powerOn.fullDepth < 16 ∧ 119 < Profile.powerOn.emptyDepth := by decide

/-- A flight of bin 1's frame: flags, distance, arrival epoch. -/
def flight (flags : Byte) (distance : Nat) (epoch : Word32) : InFlight :=
  ⟨frame 133 flags 0 90, { sensed 133 flags 0 90 with distance := distance }, 0, epoch, 5062, false, false⟩

theorem meets_ReadingEvaluation :
    (flight 0x40 90 5).sensor.lift = true ∧ (flight 0 44 5).sensor.lift = false ∧
    (flight 0x20 44 5).sensor.heat = true ∧ (flight 0x10 44 5).sensor.tamper = true ∧
    Profile.powerOn.eventsUrgent = true ∧
    ((5#32 - 6#32).toNat ≥ 2147483648 ∧ ¬ 2147483648 ≤ (6#32 - 6#32).toNat) ∧
    (flight 0 4095 5).sensor.distance = 4095 ∧
    ((evaluate { Profile.powerOn with maxStep := 14 } (flight 0 44 5) (bin 1 .normal (some 57) .none)).stepJump = true ∧
      (evaluate { Profile.powerOn with maxStep := 15 } (flight 0 44 5) (bin 1 .normal (some 57) .none)).stepJump =
        false) ∧
    ((evaluate .powerOn (flight 0 36 5) (bin 1 .normal (some 57) .none)).bin.state = .due ∧
      (evaluate .powerOn (flight 0 37 5) (bin 1 .normal (some 57) .none)).bin.state = .normal ∧
      (evaluate .powerOn (flight 0 57 5) (bin 1 .due (some 80) .none)).bin.state = .due ∧
      (evaluate .powerOn (flight 0 58 5) (bin 1 .due (some 80) .none)).bin.state = .normal ∧
      (evaluate .powerOn (flight 0 17 5) (bin 1 .due (some 80) .none)).bin.state = .urgent) ∧
    (bin 1 .due (some 80) .none).crossing.isSome ∧ (bin 1 .normal none .none).crossing = none := by decide +kernel

theorem wf_put (i : Nat) (v : Slot) (h : i < 8192) : (BinTable.put [] i v).wf :=
  BinTable.put_wf _ _ _ ⟨List.Pairwise.nil, by intro p hp; cases hp⟩ (fun _ => h)

/-- Bin 1's TAMPER frame in flight under HOLD for TAMPER, round 0 full at cap 1 with a lower entry whose own slot's
check code fails. -/
def displacing : State :=
  let s := holding (holding running 8 (bin 2 .due (some 80) .placed) 1) 5062 (bin 1 .normal (some 57) .none) 0
  armed (inFlight (s.setRound 0 { s.round 0 with cap := 1, fill := [entry 8 .due] }) 0x10 44 false) .tamper .hold

/-- The frame's HOLD sets the HELD status at the frame's end, and intake is STOPPED after it (R59). -/
theorem test_applyClaim_displacedError :
    after (.applyClaim []) displacing (fun s => (s.intake.state, s.notices.held.set, s.notices.heldCause)) =
      some (.stopped, true, some (.kind .tamper)) ∧
    after (.applyClaim []) displacing (fun s => (s.table.get 8, (s.round 0).fill.map fun e => e.slot)) =
      some (.damaged, [5062]) := by decide +kernel

theorem meets_ApplyClaimEndsFrame :
    (let s := inFlight oneBin 0 44 false
     let y (distance : Nat) (r : BinRecord) := evaluate (Vec.get s.profiles 0) (flight 0 distance 0) r
     s.rstLow = false ∧ (s.intake.inFlight.map fun x => x.dropped) = some false ∧
      s.table.get 5062 = .live (bin 1 .normal (some 57) .none) 0 ∧
      (y 36 (bin 1 .normal (some 57) .none)).bin.state = .due ∧
      (y 17 (bin 1 .normal (some 57) .none)).bin.state = .urgent ∧
      ((y 58 (bin 1 .due (some 80) .none)).bin.state = .normal ∧ (flight 0 58 0).sensor.lift = false) ∧
      ((y 44 { bin 1 .normal (some 57) .none with silent := true }).bin.state = .normal) ∧
      (y 37 (bin 1 .normal (some 57) .none)).bin.state = .normal ∧
      conditionKinds (flight 0 44 0) (y 44 (bin 1 .normal (some 57) .none)) false = [] ∧
      s.intake.holdWaiting = none ∧ s.link.handler = .idle) ∧
    (63 < 64 ∧ 3 < 4 ∧ (asking running 0x42 []).link.handler = .taken ⟨0x42, 7, []⟩ ∧
      (0x42#8).toNat ∉ [0x40, 0x41, 0x43, 0x45, 0x70, 0x71, 0x72] ∧
      (asking running 0x72 [0]).link.handler = .taken ⟨0x72, 7, [0]⟩) ∧
    (let x := flight 0x10 44 0
     let y := evaluate (Vec.get displacing.profiles 0) x (bin 1 .normal (some 57) .none)
     y.bin.state = .urgent ∧ displacing.intake.state = .run ∧
      (place displacing 5062 y.bin .urgent).1.intake.state = .stopped) ∧
    ((inFlight oneBin 0 44 true).intake.inFlight.map fun x => x.dropped) = some true ∧
    ((inFlight badBin 0 44 true).intake.inFlight.map fun x => x.dropped) = some true ∧
    (inFlight badBin 0 44 false).table.get 5062 = .live (bin 1 .normal (some 57) .none) 1 ∧
    ((inFlight (running.setTable [(5062, .damaged)]) 0 44 false).table.get 5062).isLive = false ∧
    running.intake.inFlight = none ∧
    (MayTake (queued running [frame 133 1 44 90]) ∧ checkForm (frame 133 1 44 90) matches .error .formBad) :=
  ⟨by decide +kernel, by decide +kernel, by decide +kernel, rfl, rfl, by decide +kernel, by decide +kernel, rfl,
    mayTake (by decide +kernel), by decide +kernel⟩

theorem meets_ProfilePutAndGet :
    Meets 0x30 [15, 0, 80, 0, 10, 75, 50, 95, 100, 2, 2, 64, 0, 0] stopped (fun s => s.intake.state = .stopped) ∧
    Meets 0x30 [15, 0, 20, 0, 10, 1, 0, 1, 1, 0, 0, 1, 1, 1] running (fun s => s.intake.state ≠ .stopped ∧
      (0#8 ++ 10#8).toNat + 10 ≤ (0#8 ++ 20#8).toNat ∧ (20 : Nat) ≤ (0#8 ++ 20#8).toNat) ∧
    Meets 0x30 [15, 1, 0x90, 1, 0x86, 100, 99, 100, 100, 255, 255, 255, 0, 0] running (fun _ =>
      (1#8 ++ 0x90#8).toNat ≤ 400 ∧ (1#8 ++ 0x86#8).toNat + 10 ≤ (1#8 ++ 0x90#8).toNat) ∧
    Meets 0x30 [16, 0, 80, 0, 10, 75, 50, 95, 100, 2, 2, 64, 0, 0] running (fun _ => ¬ (16#8).toNat ≤ 15) ∧
    Meets 0x30 [0, 0, 80, 0, 71, 75, 50, 95, 100, 2, 2, 64, 0, 0] running (fun _ =>
      ¬ (0#8 ++ 71#8).toNat + 10 ≤ (0#8 ++ 80#8).toNat) ∧
    Meets 0x31 [16] running (fun _ => 15 < (16#8).toNat) ∧
    Meets 0x31 [15] running (fun _ => (15 : Fin 16).val = (15#8).toNat) := by
  simp only [Meets, Asked]; decide +kernel

/-! ### Conditions -/

theorem meets_ConditionActions :
    (running.cond.action .crcBad = .record ∧ running.cond.action .noBin = .relay ∧
      running.cond.action .silence = .note ∧ (armed running .silence .defer).cond.action .silence = .defer) ∧
    ((armed stopped .silence .hold).cond.action .silence = .hold ∧ stopped.intake.state = .stopped) ∧
    ((armed (inFlight oneBin 0 44 false) .silence .hold).cond.action .silence = .hold ∧
      (inFlight oneBin 0 44 false).intake.inFlight ≠ none) ∧
    ((armed running .silence .hold).cond.action .silence = .hold ∧ running.intake.inFlight = none) := by
  decide +kernel

theorem meets_RulePutReexamines :
    Meets 0x60 [18, 0, 0] running (fun _ => 17 < (18#8).toNat) ∧
    Meets 0x60 [17, 5, 0] running (fun _ => 4 < (5#8).toNat) ∧ Meets 0x60 [17, 0, 5] running (fun _ => 4 < (5#8).toNat) ∧
    Meets 0x60 [14, 4, 0] (deferring running 3) (fun s => Vec.get s.cond.rows 14 = ⟨.defer, .record⟩) ∧
    Meets 0x60 [14, 1, 0] (deferring running 0) (fun s => Vec.get s.cond.rows 14 ≠ ⟨.note, .record⟩ ∧
      (Vec.get s.cond.deferred 14).count = 0) ∧
    Meets 0x60 [14, 4, 1] (deferring running 3) (fun s => Vec.get s.cond.rows 14 ≠ ⟨.defer, .note⟩ ∧
      Vec.get s.cond.mask 14 = true) ∧
    Meets 0x60 [14, 0, 0] (deferring running 3) (fun s => Vec.get s.cond.rows 14 ≠ ⟨.record, .record⟩ ∧
      (Vec.get s.cond.deferred 14).count ≠ 0) ∧
    Meets 0x60 [14, 1, 0] (deferring running 3) (fun s => Vec.get s.cond.rows 14 ≠ ⟨.note, .record⟩) ∧
    Meets 0x60 [14, 3, 0] (deferring stopped 3) (fun s => s.intake.state = .stopped) ∧
    Meets 0x60 [14, 3, 0] (deferring running 3) (fun s => s.intake.state ≠ .stopped ∧ s.intake.inFlight = none) ∧
    Meets 0x60 [14, 3, 0] (deferring (inFlight oneBin 0 44 false) 3) (fun s => s.intake.state ≠ .stopped ∧
      s.intake.inFlight ≠ none) := by
  simp only [Meets, Asked]; decide +kernel

theorem meets_RuleGetReturnsRow :
    Meets 0x61 [17] running (fun _ => Kind.intakeOverrun.idx.val = (17#8).toNat) ∧
    Meets 0x61 [18] running (fun _ => (18#8).toNat = 18) ∧ Meets 0x61 [19] running (fun _ => 18 < (19#8).toNat) := by
  simp only [Meets, Asked]; decide

theorem meets_MaskPutAndConditionRead :
    Meets 0x62 [4, 0, 0] running (fun _ => 4 ≤ (4#8).toNat) ∧
    Meets 0x62 [3, 255, 255] running (fun s => (3#8).toNat < 4 ∧ Vec.get s.cond.mask 17 = (3#8 ++ 255#8 ++ 255#8).getLsbD 17 ∧
      allKinds.all fun k => (Vec.get s.cond.deferred k.idx).count = 0) ∧
    Meets 0x62 [0, 0, 0] (deferring running 3) (fun s => (Vec.get s.cond.deferred 14).count ≠ 0 ∧
      Vec.get s.cond.mask 14 ≠ (0#8 ++ 0#8 ++ 0#8).getLsbD 14) ∧
    Meets 0x63 [2] running (fun _ => 1 < (2#8).toNat) ∧ Meets 0x63 [0] running (fun _ => true) ∧
    Meets 0x63 [1] running (fun _ => true) := by
  simp only [Meets, Asked]; decide +kernel

/-! ### Time -/

/-- `s` at a second, minute and day. -/
def clockAt (second minute day : Nat) : State :=
  running.setTime { running.time with second := second, minute := minute, day := day }

theorem meets_TickAdvancesTime :
    (reading.rstLow = false ∧ reading.time.epochEndOwed = false ∧ ¬ notReading (reading.port 0) ∧
      notReading (reading.port 1) ∧ reading.drawTimeout ≠ 0 ∧ (reading.port 0).expiryOwed = false) ∧
    (clockAt 58 1439 0).time.second < 59 ∧ (clockAt 59 1438 0).time.minute < 1439 ∧
    (clockAt 59 1439 65534).time.day < 65535 ∧ (clockAt 59 1439 65535).time.day = 65535 ∧
    (oneBin.table.wf ∧ oneBin.table.get 5062 = .live (bin 1 .normal (some 57) .none) 0 ∧
      (oneBin.table.get 5063).isLive = false) := by
  refine ⟨⟨rfl, rfl, ?_, Or.inl rfl, by decide, rfl⟩, by decide, by decide, by decide, by decide,
    wf_put 5062 (.live (bin 1 .normal (some 57) .none) 0) (by decide), by decide +kernel, by decide +kernel⟩
  rintro (h | ⟨q, h⟩)
  · exact absurd h (by decide)
  · have : (reading.port 0).state = .reading 0 := by decide +kernel
    rw [this] at h; cases h

/-- An epoch end owed with an interval and a count. -/
def ending (interval count : Nat) : State :=
  running.setTime { running.time with epochEndOwed := true, interval := interval, postCount := count }

/-- `s` with a trigger owed. -/
def triggered (s : State) : State := s.setTime { s.time with triggersOwed := 1 }

/-- A sweep running at a slot. -/
def sweeping (s : State) (i : Nat) : State := s.setSweep ⟨true, i, some 0, none, 0, 0, 0, 0, 0⟩

theorem meets_EpochEndAndTrigger :
    running.time.epochEndOwed = false ∧ (ending 0 0).time.interval = 0 ∧
    (ending 3 1).time.postCount + 1 < (ending 3 1).time.interval ∧
    (ending 3 2).time.interval ≤ (ending 3 2).time.postCount + 1 ∧ running.time.triggersOwed = 0 ∧
    ((triggered stopped).time.triggersOwed = 0 + 1 ∧ (triggered stopped).intake.state = .stopped) ∧
    ((triggered (sweeping running 5)).sweep.running = true ∧ (triggered running).sweep.running = false ∧
      (triggered running).link.handler = .idle) ∧
    ((triggered (running.setLink { running.link with handler := .restarting 7 2 0 })).link.handler =
      .restarting 7 2 0 ∧ 2 ≤ 2) ∧
    (triggered (running.setLink { running.link with handler := .restarting 7 1 0 })).link.handler =
      .restarting 7 1 0 := by decide

theorem meets_MinuteChangeMakesCutoffs :
    (running.setTime { running.time with minuteChangesOwed := [(0, 43)] }).time.minuteChangesOwed = (0, 43) :: [] ∧
    running.time.minuteChangesOwed = [] := by decide

theorem meets_ClockSetAndTimeGet :
    Meets 0x50 [5, 160, 0, 0] running (fun _ => 1439 < (5#8 ++ 160#8).toNat) ∧
    Meets 0x50 [5, 159, 255, 255] running (fun _ => (5#8 ++ 159#8).toNat ≤ 1439) ∧
    Meets 0x51 [] running (fun s => s.time.epochEndOwed = false) ∧
    Meets 0x51 [] (ending 1 0) (fun s => s.time.epochEndOwed = true) := by
  simp only [Meets, Asked]; decide

theorem meets_SettingsAreStored :
    (Meets 0x92 [1, 0, 16] running (fun _ => 15 < (0#8 ++ 16#8).toNat) ∧
      Meets 0x92 [1, 0, 15] running (fun _ => (0#8 ++ 15#8).toNat ≤ 15)) ∧
    (Meets 0x92 [2, 0, 0] running (fun _ => (0#8 ++ 0#8).toNat = 0) ∧
      Meets 0x92 [2, 0, 61] running (fun _ => 60 < (0#8 ++ 61#8).toNat) ∧
      Meets 0x92 [2, 0, 60] running (fun _ => (0#8 ++ 60#8).toNat ≤ 60)) ∧
    (Meets 0x92 [3, 14, 17] running (fun _ => 3600 < (14#8 ++ 17#8).toNat) ∧
      Meets 0x92 [3, 0, 9] running (fun _ => (0#8 ++ 9#8).toNat < 10) ∧
      Meets 0x92 [3, 14, 16] running (fun _ => (14#8 ++ 16#8).toNat = 3600)) ∧
    (Meets 0x92 [4, 0, 17] running (fun _ => 16 < (0#8 ++ 17#8).toNat) ∧
      Meets 0x92 [4, 0, 16] running (fun _ => (0#8 ++ 16#8).toNat ≤ 16)) ∧
    (Meets 0x92 [5, 14, 17] running (fun _ => 3600 < (14#8 ++ 17#8).toNat) ∧
      Meets 0x92 [5, 0, 0] running (fun _ => (0#8 ++ 0#8).toNat = 0) ∧
      Meets 0x92 [5, 0, 1] running (fun _ => 1 ≤ (0#8 ++ 1#8).toNat) ∧
      Meets 0x92 [5, 14, 16] running (fun _ => (14#8 ++ 16#8).toNat ≤ 3600)) ∧
    (Meets 0x92 [0, 0, 0] running (fun _ => (0#8).toNat = 0) ∧ Meets 0x92 [6, 0, 0] running (fun _ => 5 < (6#8).toNat)) ∧
    (Meets 0x93 [6] running (fun _ => 5 < (6#8).toNat) ∧ Meets 0x93 [1] running (fun _ => true) ∧
      Meets 0x93 [2] running (fun _ => true) ∧ Meets 0x93 [3] running (fun _ => true) ∧
      Meets 0x93 [4] running (fun _ => true) ∧ Meets 0x93 [5] running (fun _ => true)) := by
  simp only [Meets, Asked]
  refine ⟨?_, ?_, ?_, ?_, ?_, ?_, ?_⟩ <;> decide

/-! ### Rounds and sheets -/

/-- Round 0 with seal-empty yes. -/
def sealsEmpty (s : State) : State := s.setRound 0 { s.round 0 with sealEmpty := true }

theorem meets_CutoffOutcomes :
    ((running.round 0).otherState = .free ∧ (running.round 0).fill = [] ∧ (running.round 0).sealEmpty = false) ∧
    ((sides running [entry 1 .due] .free []).round 0).fill ≠ [] ∧ ((sealsEmpty running).round 0).sealEmpty = true ∧
    (running.round 0).bound = none ∧
    (((sides waiting [entry 1 .due] .free []).round 0).bound = some 0 ∧
      ((sides waiting [entry 1 .due] .free []).round 0).otherState = .free) ∧
    (((sealsEmpty waiting).round 0).fill = [] ∧ ((sealsEmpty waiting).round 0).bound = some 0) ∧
    (reading.round 0).otherState ≠ .free ∧
    (0 : Fin 64) ∈ (running.setTime { running.time with cutoffsOwed := [0] }).time.cutoffsOwed ∧
    (0 : Fin 64) ∉ running.time.cutoffsOwed ∧
    (Meets 0x72 [0] stopped (fun s => s.intake.state = .stopped) ∧ Meets 0x72 [64] running (fun _ => 63 < (64#8).toNat) ∧
      Meets 0x72 [0] (sides running [entry 1 .due] .free []) (fun s => (cutoff s 0).2 = .sealed 1 false) ∧
      Meets 0x72 [0] running (fun s => (cutoff s 0).2 = .empty) ∧
      Meets 0x72 [0] reading (fun s => (cutoff s 0).2 = .held)) := by
  simp only [Meets, Asked]; decide +kernel

theorem meets_RoundPutAndGet :
    Meets 0x70 [0, 1, 5, 159, 7, 6, 1, 1] stopped (fun s => s.intake.state = .stopped) ∧
    Meets 0x70 [64, 1, 5, 159, 7, 6, 1, 1] running (fun _ => 63 < (64#8).toNat) ∧
    Meets 0x70 [63, 1, 5, 160, 7, 6, 1, 1] running (fun _ => ¬ (5#8 ++ 160#8).toNat ≤ 1439) ∧
    Meets 0x70 [63, 1, 5, 159, 7, 6, 1, 1] running (fun s => (5#8 ++ 159#8).toNat ≤ 1439 ∧ (6#8).toNat < (7#8).toNat ∧
      (s.round 63).fill.length ≤ (1#8).toNat ∧ (s.round 63).other.length ≤ (1#8).toNat) ∧
    Meets 0x70 [0, 0, 0, 0, 1, 0, 1, 0] reading (fun s => (1#8).toNat < (s.round 0).other.length) ∧
    Meets 0x71 [64] running (fun _ => 63 < (64#8).toNat) ∧
    Meets 0x71 [63] running (fun _ => (63 : Fin 64).val = (63#8).toNat) := by
  simp only [Meets, Asked]; decide +kernel

/-- Before bin 1's entry of slot 5062 an entry of another slot, and one of the same slot that is marked. -/
def ahead : List Entry := [entry 9 .urgent, { entry 5062 .urgent with mark := .served }]

theorem meets_PlaceFollowsTheRules :
    (let r := bin 1 .urgent (some 90) .placed
     ({ r with round := none } : BinRecord).round = none ∧ r.round = some 0 ∧
      EntryClass.urgent.rank < (entry 5062 .due).cls.rank ∧ (entry 5062 .due).cls.rank ≤ EntryClass.due.rank ∧
      entryAt 5062 (ahead ++ [entry 5062 .due, entry 5062 .due]) ahead (entry 5062 .due) [entry 5062 .due]) ∧
    locate (sides running (ahead ++ [entry 5062 .due]) .free []).rounds 5062 = some (0, .fill) ∧
    (let s := sides running [] .sealed [entry 5062 .due]
     locate s.rounds 5062 = some (0, .other) ∧ (s.round 0).otherState = .sealed) ∧
    (let s := sides running [] .opened (ahead ++ [entry 5062 .due])
     locate s.rounds 5062 = some (0, .other) ∧ (s.round 0).otherState = .opened) ∧
    (let s := sides running [] .spent [entry 5062 .due]
     locate s.rounds 5062 = some (0, .other) ∧ (s.round 0).otherState = .spent) ∧
    (locate running.rounds 5062 = none ∧ (running.round 0).fill.length < (running.round 0).cap ∧ 0 < running.free ∧
      (running.setFree 0).free = 0) ∧
    (let s := sides (holding running 9 (bin 3 .normal none .placed) 0) [entry 9 .check] .free []
     let s := s.setRound 0 { s.round 0 with cap := 1 }
     (s.round 0).cap ≤ (s.round 0).fill.length ∧ (s.round 0).fill = [] ++ [entry 9 .check] ∧
      locate s.rounds 5062 = none ∧ EntryClass.due.rank < (entry 9 .check).cls.rank ∧
      (entry 9 .check).cls.rank ≤ EntryClass.check.rank ∧ s.table.get 9 = .live (bin 3 .normal none .placed) 0) ∧
    (holding running 9 (bin 3 .normal none .placed) 1).table.get 9 = .live (bin 3 .normal none .placed) 1 ∧
    noEntry running 5062 := by
  refine ⟨by simp only [entryAt]; decide, by decide +kernel, by decide +kernel, by decide +kernel, by decide +kernel,
    by decide +kernel, by decide +kernel, by decide +kernel, ?_⟩
  simp only [noEntry]
  decide +kernel

theorem meets_EntriesKeepTheirPlaces : inOrder [{ entry 1 .due with carried := true }, entry 2 .due, entry 3 .check] := by
  unfold inOrder mayPrecede; decide

/-! ### Draw ports -/

theorem meets_BindOpensOrWaits :
    Meets 0x40 [0, 0] stopped (fun s => s.intake.state = .stopped) ∧
    Meets 0x40 [4, 0] running (fun _ => 3 < (4#8).toNat) ∧ Meets 0x40 [3, 64] running (fun _ => 63 < (64#8).toNat) ∧
    Meets 0x40 [0, 63] reading (fun s => (s.port 0).state ≠ .unbound) ∧
    Meets 0x40 [3, 0] reading (fun s => (s.port 3).state = .unbound ∧ (s.round 0).bound ≠ none) ∧
    Meets 0x40 [3, 63] running (fun s => (s.port 3).state = .unbound ∧ (s.round 63).bound = none ∧
      (s.round 63).otherState ≠ .sealed) ∧
    Meets 0x40 [3, 0] (sides running [] .sealed [entry 1 .due]) (fun s => (s.round 0).otherState = .sealed ∧
      (s.round 0).other ≠ []) ∧
    Meets 0x40 [3, 0] (sides running [] .sealed []) (fun s => (s.round 0).otherState = .sealed ∧
      (s.round 0).other = []) := by
  simp only [Meets, Asked]; decide +kernel

theorem meets_DrawReturnsEntries :
    Meets 0x42 [0, 1] stopped (fun s => s.intake.state = .stopped) ∧
    Meets 0x42 [4, 1] running (fun _ => 3 < (4#8).toNat) ∧ Meets 0x42 [3, 0] running (fun _ => (0#8).toNat = 0) ∧
    Meets 0x42 [3, 33] running (fun _ => 32 < (33#8).toNat) ∧
    Meets 0x42 [3, 32] running (fun s => (s.port 3).state = .unbound) ∧
    Meets 0x42 [0, 1] waiting (fun s => (s.port 0).state = .waiting 0) ∧
    Meets 0x42 [0, 1] atEnd (fun s => (s.port 0).state = .exhausted 0) ∧
    Meets 0x42 [0, 1] reading (fun s => (s.port 0).state = .reading 0 ∧ s.table.get 1 = .empty ∧
      (s.port 0).cursor + 1 < (s.round 0).other.length) ∧
    Meets 0x42 [0, 2] reading (fun s => (s.round 0).other.length ≤ (s.port 0).cursor + 2) ∧
    Meets 0x42 [0, 1] (holding reading 1 (bin 1 .urgent (some 97) .placed) 0) (fun s =>
      (s.port 0).state = .reading 0 ∧ (s.port 0).cursor + 1 < (s.round 0).other.length ∧
      s.table.get 1 = .live (bin 1 .urgent (some 97) .placed) 0) ∧
    Meets 0x42 [0, 2] (holding (holding reading 1 (bin 1 .urgent (some 97) .placed) 0) 2 (bin 2 .due none .placed) 0)
      (fun s => (s.port 0).state = .reading 0 ∧ (s.round 0).other.length ≤ (s.port 0).cursor + 2 ∧
        s.table.get 1 = .live (bin 1 .urgent (some 97) .placed) 0 ∧
        s.table.get 2 = .live (bin 2 .due none .placed) 0) ∧
    (Meets 0x42 [0, 2] (holding reading 2 (bin 1 .due none .placed) 1) (fun s =>
      (s.round 0).other = [entry 1 .urgent] ++ entry 2 .due :: [] ∧
      s.table.get 2 = .live (bin 1 .due none .placed) 1 ∧ (s.round 0).otherState = .opened)) := by
  simp only [Meets, Asked]; decide +kernel

theorem meets_RewindAndPortGet :
    Meets 0x43 [0] stopped (fun s => s.intake.state = .stopped) ∧ Meets 0x43 [4] running (fun _ => 3 < (4#8).toNat) ∧
    Meets 0x43 [3] running (fun s => (s.port 3).state = .unbound) ∧
    Meets 0x43 [0] waiting (fun s => (s.port 0).state = .waiting 0) ∧
    Meets 0x43 [0] reading (fun s => (s.port 0).state = .reading 0 ∧ (s.round 0).other ≠ []) ∧
    Meets 0x43 [0] (sides atEnd [] .spent []) (fun s => (s.port 0).state = .exhausted 0 ∧ (s.round 0).other = []) ∧
    Meets 0x45 [4] running (fun _ => 3 < (4#8).toNat) ∧
    Meets 0x45 [3] running (fun s => (s.port 3).state = .unbound) ∧
    Meets 0x45 [0] waiting (fun s => (s.port 0).state = .waiting 0) ∧
    Meets 0x45 [0] reading (fun s => (s.port 0).state = .reading 0) ∧
    Meets 0x45 [0] atEnd (fun s => (s.port 0).state = .exhausted 0) := by
  simp only [Meets, Asked]; decide +kernel

theorem meets_UnbindAndExpiryReturnSide :
    Meets 0x41 [4] running (fun _ => 3 < (4#8).toNat) ∧
    Meets 0x41 [3] running (fun s => (s.port 3).state = .unbound) ∧
    Meets 0x41 [0] waiting (fun s => (s.port 0).state = .waiting 0) ∧
    Meets 0x41 [0] reading (fun s => (s.port 0).state = .reading 0) ∧
    Meets 0x41 [0] atEnd (fun s => (s.port 0).state = .exhausted 0) ∧
    (running.port 0).expiryOwed = false ∧
    ((reading.setPort 0 { reading.port 0 with expiryOwed := true }).port 0).expiryOwed = true ∧
    ((reading.setPort 0 { reading.port 0 with expiryOwed := true }).port 0).state = .reading 0 := by
  simp only [Meets, Asked]; decide +kernel

theorem meets_ReleaseHandsBack :
    Meets 0x44 [0] stopped (fun s => s.intake.state = .stopped) ∧ Meets 0x44 [4] running (fun _ => 3 < (4#8).toNat) ∧
    Meets 0x44 [3] running (fun s => (s.port 3).state = .unbound) ∧
    Meets 0x44 [0] waiting (fun s => (s.port 0).state = .waiting 0) ∧
    Meets 0x44 [0] atEnd (fun s => (s.port 0).state = .exhausted 0 ∧ (s.round 0).held = false ∧
      (s.round 0).fill.length + (s.round 0).other.length ≤ (s.round 0).cap) ∧
    Meets 0x44 [0] (atEnd.setRound 0 { atEnd.round 0 with held := true, cap := 2 }) (fun s =>
      (s.round 0).held = true ∧ (s.round 0).fill.length + (s.round 0).other.length ≤ (s.round 0).cap) ∧
    (let s := sides (holding atEnd 9 (bin 3 .normal none .placed) 0) [entry 9 .check] .spent [entry 1 .due]
     Meets 0x44 [0] (s.setRound 0 { s.round 0 with cap := 1 }) (fun s =>
      (s.round 0).cap ≤ (s.round 0).fill.length ∧ (s.round 0).fill = [] ++ [entry 9 .check] ∧
      (entry 1 .due).cls.rank < (entry 9 .check).cls.rank ∧ s.table.get 9 = .live (bin 3 .normal none .placed) 0)) ∧
    (let s := sides (holding atEnd 1 (bin 3 .normal none .placed) 0) [entry 9 .due] .spent [entry 1 .due]
     Meets 0x44 [0] (s.setRound 0 { s.round 0 with cap := 1 }) (fun s =>
      (entry 9 .due).cls.rank ≤ (entry 1 .due).cls.rank ∧
      s.table.get 1 = .live (bin 3 .normal none .placed) 0)) ∧
    (let s := sides (holding atEnd 9 (bin 3 .normal none .placed) 1) [entry 9 .check] .spent [entry 1 .due, entry 2 .check]
     Meets 0x44 [0] (s.setRound 0 { s.round 0 with cap := 1 }) (fun s =>
      (s.round 0).cap ≤ (s.round 0).fill.length ∧ (s.round 0).other.filter (fun e => e.mark = .none) =
        [entry 1 .due, entry 2 .check] ∧ s.table.get 9 = .live (bin 3 .normal none .placed) 1)) := by
  simp only [Meets, Asked]; decide +kernel

/-- Two entries meet a FILL side at cap (R131, R132): the first displaces the last entry, whose check code fails; the
second is dropped, and its own check code fails, so no PLACE_FAIL is raised. -/
theorem test_release_two_at_cap :
    (let s := holding (holding atEnd 9 (bin 3 .normal none .placed) 1) 2 (bin 4 .normal none .placed) 1
     let s := sides s [entry 9 .check] .spent [entry 1 .due, entry 2 .check]
     after .release (asking ((s.setRound 0 { s.round 0 with cap := 1 }).setFree 4093) 0x44 [0]) fun t =>
      ((t.round 0).fill, t.free, (t.round 0).displaced, t.table.get 9, t.table.get 2, Vec.get t.cond.counts Kind.placeFail.idx)) =
      some ([{ entry 1 .due with carried := true }], 4095, 1, .damaged, .damaged, 0) ∧
    (let s := holding (holding atEnd 9 (bin 3 .normal none .placed) 0) 2 (bin 4 .normal none .placed) 0
     let s := sides s [entry 9 .check] .spent [entry 1 .due, entry 2 .check]
     after .release (asking ((s.setRound 0 { s.round 0 with cap := 1 }).setFree 4093) 0x44 [0]) fun t =>
      (t.free, Vec.get t.cond.counts Kind.placeFail.idx, t.table.get 2)) =
      some (4095, 1, .live (bin 4 .normal none .unplaced) 0) := by decide +kernel

/-! ### The sweep -/

theorem meets_SweepRequestsAnswered :
    Meets 0x80 [] stopped (fun s => s.intake.state = .stopped) ∧
    Meets 0x80 [] (sweeping running 5) (fun s => s.sweep.running = true) ∧
    Meets 0x80 [] running (fun s => s.sweep.running = false) ∧
    Meets 0x81 [] (sweeping running 5) (fun s => s.sweep.running = true) ∧
    Meets 0x81 [] running (fun s => s.sweep.running = false) ∧ Meets 0x82 [] running (fun _ => true) := by
  simp only [Meets, Asked]; decide

theorem meets_SweepVisitsEmptySlots :
    running.sweep.running = false ∧ (sweeping running 0).sweep.running = true ∧ running.table.get 0 = .empty ∧
    (tabled running [(0, .damaged)]).table.get 0 = .damaged ∧
    ((tabled running [(8191, .tombstone), (0, .tombstone)]).table.get 8191 = .tombstone ∧
      (tabled running [(8191, .tombstone), (0, .tombstone)]).table.get ((8191 + 1) % 8192) ≠ .empty) ∧
    ((tabled running [(8191, .tombstone)]).table.get 8191 = .tombstone ∧
      (tabled running [(8191, .tombstone)]).table.get ((8191 + 1) % 8192) = .empty) ∧
    badBin.table.get 5062 = .live (bin 1 .normal (some 57) .none) 1 ∧
    ((sweeping (tabled running [(0, .live (bin 1 .normal none .none) 1)]) 0).table.get 0 =
      .live (bin 1 .normal none .none) 1) := by decide +kernel

theorem meets_SweepVisitsLiveSlots :
    ((sweeping oneBin 5062).rstLow = false ∧ (sweeping oneBin 5062).sweep.running = true ∧
      (sweeping oneBin 5062).sweep.cursor = 5062 ∧
      (sweeping oneBin 5062).table.get 5062 = .live (bin 1 .normal (some 57) .none) 0) ∧
    (Vec.get running.profiles 0).silenceLimit ≤ (288#32 - 0#32).toNat ∧
    ¬ (Vec.get running.profiles 0).silenceLimit ≤ (287#32 - 0#32).toNat ∧
    ((bin 1 .due none .unplaced).placement = .unplaced ∧ (bin 1 .due none .unplaced).state = .due) ∧
    ((place oneBin 5062 (bin 1 .due none .unplaced) .due).2 = .added ∧
      (place (oneBin.setFree 0) 5062 (bin 1 .due none .unplaced) .due).2 = .failed ∧
      (place (sides oneBin [entry 5062 .due] .free []) 5062 (bin 1 .due none .unplaced) .due).2 = .unchanged ∧
      (place (sides oneBin [entry 5062 .due] .free []) 5062 (bin 1 .urgent none .unplaced) .urgent).2 = .upgraded) := by
  decide +kernel

/-! ### The planner link -/

/-- The link receiver discards. -/
def discarding : State := running.setLink { running.link with rx := .discarding }

theorem meets_DownlinkFrames :
    running.link.rx = .waiting ∧ discarding.link.rx = .discarding ∧ (List.replicate 600 (0 : Byte)).length ≤ 600 ∧
    some 0#16 ≠ some (crc16 [1, 0, 3, 0x90, 1, 2]) ∧ none ≠ some (crc16 [1, 0, 3, 0x90, 1, 2]) ∧ [0x90#8, 1#8].length < 3 ∧ [0x90#8, 1#8, 2#8] = 0x90#8 :: 1#8 :: 2#8 :: [] ∧
    (running.setLink { running.link with downlink := List.replicate 7 ⟨0, 0, []⟩ }).link.downlink.length < 8 ∧
    8 ≤ (running.setLink { running.link with downlink := List.replicate 8 ⟨0, 0, []⟩ }).link.downlink.length ∧
    0#8 ≠ 1#8 ∧ 600 < 601 ∧ 65535 < 65536 := by decide +kernel

theorem meets_RequestTakeAndUnknown :
    (asking running 0x90 []).link.handler ≠ .idle ∧ running.link.downlink = [] ∧ ¬ freePlace (relays running 64) ∧
    freePlace (relays running 63) ∧
    (∀ n ∈ codesWithLengths, n.1 ≠ (0x14#8).toNat) ∧ ((0x20#8).toNat, 8) ∈ codesWithLengths ∧ 8 ≠ 7 ∧
    Meets 0x14 [] running (fun _ => true) := by
  simp only [Meets, Asked, freePlace]; decide +kernel

theorem meets_UplinkFrameAndNotice :
    running.link.uplink = [] ∧ (relays running 2).link.uplink = ⟨.relay, []⟩ :: [⟨.relay, []⟩] ∧
    running.notices.list = [] ∧
    ((running.setNotices { running.notices with list := [.round 63 .ready, .cond .silence, .held, .sweepDone, .stopped] })
      |>.notices.list) = .round 63 .ready :: [.cond .silence, .held, .sweepDone, .stopped] ∧
    (running.setNotices { running.notices with heldCause := some .start }).notices.heldCause = some .start ∧
    (running.setNotices { running.notices with stoppedSlot := some 8191 }).notices.stoppedSlot = some 8191 := by decide

/-! ### Management -/

theorem meets_NoticeEnableAndClear :
    Meets 0x94 [3, 0, 0] running (fun _ => 2 < (3#8).toNat) ∧
    Meets 0x94 [0, 64, 0] running (fun _ => 63 < (64#8).toNat) ∧
    Meets 0x94 [0, 0, 8] running (fun _ => 8 ≤ (8#8).toNat) ∧
    Meets 0x94 [0, 63, 7] running (fun _ => (63 : Fin 64).val = (63#8).toNat ∧ (7#8).toNat < 8) ∧
    Meets 0x94 [2, 255, 7] running (fun _ => (2#8).toNat ≤ 2) ∧
    Meets 0x95 [5, 0, 0] running (fun _ => 4 < (5#8).toNat) ∧
    Meets 0x95 [1, 64, 0] running (fun _ => (1#8).toNat ≤ 1 ∧ 63 < (64#8).toNat) ∧
    Meets 0x95 [2, 18, 0] running (fun _ => 17 < (18#8).toNat) ∧
    Meets 0x95 [4, 0, 3] running (fun _ => 2 < (3#8).toNat) ∧
    Meets 0x95 [0, 63, 2] running (fun _ => (63 : Fin 64).val = (63#8).toNat) ∧
    Meets 0x95 [1, 63, 255] running (fun _ => (63 : Fin 64).val = (63#8).toNat) ∧
    Meets 0x95 [2, 17, 0] running (fun _ => Kind.intakeOverrun.idx.val = (17#8).toNat) ∧
    Meets 0x95 [3, 0, 0] running (fun _ => true) ∧ Meets 0x95 [4, 0, 2] running (fun _ => true) := by
  simp only [Meets, Asked]; decide

/-- A STATUS is in hand whose sweep item has been read. -/
def someRead : State :=
  running.setLink { running.link with
    handler := .readingStatus 7 (Vec.put (Vector.replicate 10 none) 3 (some [0, 0, 0])) }

theorem meets_StatusAndCounters :
    Meets 0x90 [] stopped (fun _ => true) ∧ (∀ i, i ∈ allStatusItems) ∧ StatusItem.epoch ∉ [StatusItem.sweep] ∧
    someRead.link.handler = .readingStatus 7 (Vec.put (Vector.replicate 10 none) 3 (some [0, 0, 0])) ∧
    (∀ i, i ∈ allStatusItems.erase .sweep ∨
      Vec.get (Vec.put (Vector.replicate 10 none) 3 (some [(0 : Byte), 0, 0])) (statusPlace i) ≠ none) ∧
    Vec.get (Vec.put (Vector.replicate 10 none) 3 (some [(0 : Byte), 0, 0])) (statusPlace .epoch) = none ∧
    ((asking running 0x91 [0]).link.handler = .taken ⟨0x91, 7, [0]⟩ ∧ running.link.handler = .idle) ∧
    Meets 0x91 [2] running (fun _ => 1 < (2#8).toNat) ∧ Meets 0x91 [0] running (fun _ => true) ∧
    Meets 0x91 [1] running (fun _ => true) := by
  simp only [Meets, Asked]
  exact ⟨by decide, fun i => by cases i <;> decide, by decide, by decide, fun i => by cases i <;> decide, by decide,
    by decide, by decide, by decide, by decide⟩

theorem meets_RestartWork :
    Meets 0x9F [] (inFlight oneBin 0 44 false) (fun _ => true) ∧
    after (.restart 3) (asking running 0x9F []) (fun u => u.link.handler) = some (.restarting 7 3 0) ∧
    (let s := running.setLink { running.link with rx := .discarding }
     Asked (asking s 0x9F []) 0x9F 7 [] ∧ (asking s 0x9F []).link.rx = .discarding) := by
  simp only [Meets, Asked]; decide +kernel

/-! ### Laws that every step keeps, in states other than the one after reset -/

/-- Bin 1 one probe position past its home slot, which is DAMAGED. -/
def pastDamage : State := holding (tabled running [(5062, .damaged)]) 5063 (bin 1 .normal (some 57) .none) 0

theorem meets_ProbeChainsKept :
    pastDamage.table.wf ∧ ProbeLaw pastDamage ∧
    (step ((asking pastDamage 0x22 [0, 0, 0, 1]).setPending [.binDrop]) matches .next _) = true := by
  have at5063 : ∀ i r d, pastDamage.table.get i = .live r d → i = 5063 ∧ r.binId = 1 := by
    intro i r d h
    have table : pastDamage.table = [(5062, .damaged), (5063, .live (bin 1 .normal (some 57) .none) 0)] := by decide
    rw [table] at h
    simp only [BinTable.get] at h
    split at h
    · cases h
    · split at h
      · cases h; exact ⟨‹_›, rfl⟩
      · cases h
  refine ⟨by decide, ⟨?_, ?_⟩, by decide +kernel⟩
  · intro i r d h
    obtain ⟨rfl, id⟩ := at5063 i r d h
    rw [id]
    exact ⟨1, by decide +kernel⟩
  · intro i j r r' d d' h h' _
    rw [(at5063 i r d h).1, (at5063 j r' d' h').1]

/-- Port 0 reads a side of two entries, which the pool lacks. -/
theorem meets_RoundsAndPoolKept :
    RoundLaw (reading.setFree 4094) ∧ PoolLaw (reading.setFree 4094) ∧
    RoundLaw (asking (reading.setFree 4094) 0x44 [0]) ∧
    (step ((asking (reading.setFree 4094) 0x44 [0]).setPending [.release]) matches .next _) = true := by
  simp only [RoundLaw, PoolLaw, Round.lawful, Round.settingsLawful, inOrder, noneMarked]
  unfold mayPrecede
  decide +kernel

end Sys2Proof.Tests
end

section
/-! PROOFS. WINDOW READ (R18): its work at a start position in range and at one out of range, and its answer. -/

namespace Sys2Proof.Machine

/-! ## WINDOW READ (R18) -/

/-- The request works on the window as it stands and leaves it so: all it does is the answer. -/
theorem windowReadRequest_inRange (s : State) (code : Byte) (tag : Word16) {start : Byte} (h : start.toNat ≤ 127) :
    windowReadRequest ⟨code, tag, [start]⟩ s = answeredWith s code tag ResultCode.ok.byte
      (byte s.intake.window.length :: byte ((s.intake.window.drop start.toNat).take 32).length ::
        ((s.intake.window.drop start.toNat).take 32).flatMap WindowEntry.bytes) := by
  rw [← reply_spelled s ⟨code, tag, [start]⟩]
  exact if_neg (Nat.not_lt.mpr h)

theorem windowReadRequest_outOfRange (s : State) (code : Byte) (tag : Word16) {start : Byte} (h : 127 < start.toNat) :
    windowReadRequest ⟨code, tag, [start]⟩ s = answeredWith s code tag ResultCode.range.byte [] := by
  rw [← reply_spelled s ⟨code, tag, [start]⟩]
  exact if_pos h

/-- Settles O12: the request in hand is worked, at a start position in range or out of it. -/
theorem windowReadReturnsEntries : Obligations.WindowReadReturnsEntries := by
  intro s tag start asked
  have worked : exec .windowRead s = .next (windowReadRequest ⟨0x13, tag, [start]⟩ s) := by
    rw [exec_windowRead, exec_asked asked]
  rw [worked]
  constructor
  · intro inRange
    rw [windowReadRequest_inRange s _ _ inRange]
    rfl
  · intro outOfRange
    rw [windowReadRequest_outOfRange s _ _ outOfRange]
    rfl

end Sys2Proof.Machine
end

section
/-! PROOFS. The home slot of a bin ID (R25): as a product's remainder and quotient, its range, and as the top 13 bits
of a 32-bit word. -/

namespace Sys2Proof.Machine

/-! ## The home slot (R25) -/

theorem home_eq_mod_div (b : Word32) : home b = 2654435761 * b.toNat % 2 ^ 32 / 2 ^ 19 := rfl

theorem home_lt (b : Word32) : home b < 2 ^ 13 := by
  have product : 2654435761 * b.toNat % 2 ^ 32 < 2 ^ 19 * 2 ^ 13 := Nat.mod_lt _ (by decide)
  rw [home_eq_mod_div]
  exact Nat.div_lt_of_lt_mul product

/-- The product of 32-bit words is already the remainder, and since the quotient is below 2^13 the top 13 bits hold
all of it. -/
theorem home_eq_extractLsb' (b : Word32) : home b = ((2654435761#32 * b).extractLsb' 19 13).toNat := by
  have product : (2654435761#32 * b).toNat = 2654435761 * b.toNat % 2 ^ 32 := BitVec.toNat_mul ..
  have quotient : (2654435761#32 * b).toNat >>> 19 = home b := by
    rw [product, Nat.shiftRight_eq_div_pow, home_eq_mod_div]
  rw [BitVec.extractLsb'_toNat, quotient, Nat.mod_eq_of_lt (home_lt b)]

/-- Settles O13: both readings of R25, the range of the slot and the manual's three examples. -/
theorem homeSlotOfBin : Obligations.HomeSlotOfBin :=
  ⟨home_eq_mod_div, home_eq_extractLsb', fun b => Nat.le_of_lt_succ (home_lt b), by decide, by decide, by decide⟩

end Sys2Proof.Machine
end

section
/-! PROOFS. The fill of a distance (R51): its value at or above the empty depth, at or below the full depth and between
the two, and its range. -/

namespace Sys2Proof.Machine

/-! ## The fill of a distance (R51) -/

section FillOf

variable {p : Profile} {d : Nat}

theorem fillOf_of_emptyDepth_le (atOrAboveEmpty : p.emptyDepth ≤ d) : fillOf p d = 0 :=
  if_pos atOrAboveEmpty

/-- The depths must be in order here: otherwise a distance at or above both is empty first. -/
theorem fillOf_of_le_fullDepth (depths : p.fullDepth < p.emptyDepth) (atOrBelowFull : d ≤ p.fullDepth) :
    fillOf p d = 100 := by
  have belowEmpty : ¬ p.emptyDepth ≤ d := Nat.not_le.mpr (Nat.lt_of_le_of_lt atOrBelowFull depths)
  exact (if_neg belowEmpty).trans (if_pos atOrBelowFull)

theorem fillOf_of_between (aboveFull : p.fullDepth < d) (belowEmpty : d < p.emptyDepth) :
    fillOf p d = 100 * (p.emptyDepth - d) / (p.emptyDepth - p.fullDepth) :=
  (if_neg (Nat.not_le.mpr belowEmpty)).trans (if_neg (Nat.not_le.mpr aboveFull))

/-- Between the depths the contents stand no higher than the whole depth of the bin, so the quotient is at most the
factor 100. -/
theorem fillOf_le_hundred (depths : p.fullDepth < p.emptyDepth) : fillOf p d ≤ 100 := by
  rcases Nat.lt_or_ge d p.emptyDepth with belowEmpty | atOrAboveEmpty
  · rcases Nat.lt_or_ge p.fullDepth d with aboveFull | atOrBelowFull
    · have product : 100 * (p.emptyDepth - d) ≤ (p.emptyDepth - p.fullDepth) * 100 := by omega
      rw [fillOf_of_between aboveFull belowEmpty]
      exact Nat.div_le_of_le_mul product
    · exact (fillOf_of_le_fullDepth depths atOrBelowFull).le
  · exact fillOf_of_emptyDepth_le atOrAboveEmpty ▸ Nat.zero_le 100

end FillOf

/-- Settles O21: the three cases of R51, the range of the fill and the manual's nine examples. -/
theorem fillOfDistance : Obligations.FillOfDistance :=
  ⟨fun _ _ depths => ⟨fillOf_of_emptyDepth_le, fillOf_of_le_fullDepth depths, fillOf_of_between,
    fillOf_le_hundred depths⟩, by decide⟩

end Sys2Proof.Machine
end

section
/-! PROOFS. RULE GET (R80): the data it reads for a kind with a row, for kind 18 and above, and its answer. -/

namespace Sys2Proof.Machine

/-! ## RULE GET (R80) -/

theorem kind?_eq_none {b : Byte} (h : 17 < b.toNat) : kind? b = none :=
  List.getElem?_eq_none (Nat.succ_le_of_lt h)

theorem ruleData_of_kind {s : State} {b : Byte} {k : Kind} (h : k.idx.val = b.toNat) :
    ruleData s b = some [(Vec.get s.cond.rows k.idx).armed.code, (Vec.get s.cond.rows k.idx).unarmed.code,
      yesNo (Vec.get s.cond.mask k.idx)] := by
  rw [ruleData, kind?_of_eq h]

/-- STORE_ERROR, kind 18, has no row and no mask setting (R66); its fixed data stand in their place. -/
theorem ruleData_storeError {s : State} {b : Byte} (h : b.toNat = 18) : ruleData s b = some [5, 5, 1] := by
  have isStoreError : b = 18#8 := BitVec.eq_of_toNat_eq h
  rw [ruleData, kind?_eq_none (by omega)]
  exact if_pos isStoreError

theorem ruleData_outOfRange {s : State} {b : Byte} (h : 18 < b.toNat) : ruleData s b = none := by
  have notStoreError : b ≠ 18#8 := by rintro rfl; exact absurd h (by decide)
  rw [ruleData, kind?_eq_none (by omega)]
  exact if_neg notStoreError

theorem ruleGetRequest_of_data {s : State} {b : Byte} {data : List Byte} (code : Byte) (tag : Word16)
    (h : ruleData s b = some data) :
    ruleGetRequest ⟨code, tag, [b]⟩ s = answeredWith s code tag ResultCode.ok.byte data := by
  simp only [ruleGetRequest, h, reply_spelled]

theorem ruleGetRequest_without_data {s : State} {b : Byte} (code : Byte) (tag : Word16) (h : ruleData s b = none) :
    ruleGetRequest ⟨code, tag, [b]⟩ s = answeredWith s code tag ResultCode.range.byte [] := by
  simp only [ruleGetRequest, h, reply_spelled]

/-- Settles O27: the request in hand is worked, and its answer is that of the data read for the kind. -/
theorem ruleGetReturnsRow : Obligations.RuleGetReturnsRow := by
  intro s tag kind asked
  have worked : exec .ruleGet s = .next (ruleGetRequest ⟨0x61, tag, [kind]⟩ s) := by
    rw [exec_ruleGet, exec_asked asked]
  rw [worked]
  refine ⟨fun k hasRow => ?_, fun isStoreError => ?_, fun outOfRange => ?_⟩
  · rw [ruleGetRequest_of_data _ _ (ruleData_of_kind hasRow)]
    rfl
  · rw [ruleGetRequest_of_data _ _ (ruleData_storeError isStoreError)]
    rfl
  · rw [ruleGetRequest_without_data _ _ (ruleData_outOfRange outOfRange)]
    rfl

end Sys2Proof.Machine
end

section
/-! PROOFS. Laws of the sheets: what a law of the Bin Table, the rounds, the pool and the ports must stand for every
command to keep it, and that every command then keeps it. A law is checked once per operation of the Sheet Builder and
of the table; the commands are composed of those here, once for all laws. -/

namespace Sys2Proof.Machine

/-! ## Keeping a law -/

/-- A law that does not look at the waiting commands is kept when every command keeps it. -/
theorem kept_of_exec {P : State → Prop} (pending : ∀ s l, P s → P (s.setPending l))
    (keeps : ∀ c s t, P s → exec c s = .next t → P t) : Kept P := by
  intro s t hs h
  unfold step at h
  split at h
  · exact Host.Outcome.next.inj h ▸ hs
  · exact keeps _ _ _ (pending _ _ hs) h

section Envelope

variable {P : State → Prop} {s t : State} {code item : Byte}

theorem event_keeps {f : State → State} (hs : P s) (hf : P (f s)) (h : event s f = .next t) : P t := by
  rcases event_next h with rfl | rfl
  · exact hs
  · exact hf

theorem onRequest_keeps {f : Request → State → State} (hs : P s)
    (hf : ∀ r, s.link.handler = .taken r → P (f r s)) (h : onRequest s code f = .next t) : P t := by
  rcases onRequest_next h with rfl | ⟨r, taken, -, rfl⟩
  · exact hs
  · exact hf r taken

theorem onSetting_keeps {f : Request → Nat → State → State} (hs : P s)
    (hf : ∀ r v, s.link.handler = .taken r → P (f r v s)) (h : onSetting s item f = .next t) : P t := by
  rcases onSetting_next h with rfl | ⟨r, v, taken, rfl⟩
  · exact hs
  · exact hf r v taken

end Envelope

/-! ## Slots that hold a record -/

theorem BinTable.get_put_live (t : BinTable) (i : Nat) (r : BinRecord) (d : Word16) :
    (t.put i (.live r d)).get i = .live r d := by
  induction t with
  | nil => simp [BinTable.put, BinTable.get, Slot.isEmpty]
  | cons p t ih =>
    obtain ⟨k, w⟩ := p
    simp only [BinTable.put, Slot.isEmpty, Bool.false_eq_true, if_false]
    split
    · simp [BinTable.get]
    · split
      · simp [BinTable.get]
      · rename_i above other
        simp [BinTable.get, other, ih]

theorem BinTable.put_put_live (t : BinTable) (i : Nat) (v w : Slot) (h : v.isEmpty = false) :
    (t.put i v).put i w = t.put i w := by
  induction t with
  | nil => simp [BinTable.put, h]
  | cons p t ih =>
    obtain ⟨k, u⟩ := p
    rcases lt_trichotomy i k with below | rfl | above
    · simp [BinTable.put, h, below]
    · simp [BinTable.put, h]
    · simp [BinTable.put, above.ne', above.not_gt, ih]

/-- Slot `i` is LIVE. -/
def BinTable.holds (t : BinTable) (i : Nat) : Prop := ∃ r d, t.get i = .live r d

theorem writeRecord_frame (s : State) (i : Nat) (r : BinRecord) : s.writeRecord i r = s.setTable (s.table.put i (.live r 0)) :=
  rfl

/-! ## The operands of a ROUND PUT in range (R116) -/

theorem roundPutOperands_inRange {round enabled post phase cap empty : Byte} {minute : Nat} {q : Fin 64} {o : RoundPut}
    (h : roundPutOperands round enabled post phase cap empty minute = some (q, o)) :
    o.inRange = true ∧ o.cap ≤ 255 := by
  unfold roundPutOperands at h
  split at h
  · dsimp only at h
    split at h
    · rename_i inRange
      obtain ⟨-, rfl⟩ := Prod.mk.inj (Option.some.inj h)
      exact ⟨inRange, Nat.le_of_lt_succ cap.isLt⟩
    · cases h
  · cases h

/-! ## A law of the sheets -/

/-- `t` has the Bin Table, the rounds, the pool and the ports of `s`. -/
def sameSheets (s t : State) : Prop :=
  t.table = s.table ∧ t.rounds = s.rounds ∧ t.free = s.free ∧ t.ports = s.ports

/-- A record may stand for another one without a word to the Sheet Builder. -/
def sameForSheets (r r' : BinRecord) : Prop :=
  r'.binId = r.binId ∧ r'.round = r.round ∧ r'.placement = r.placement

/-- What is true of the records of a lawful table stays true of what the commands make of them. -/
structure RecordProperty (Q : BinRecord → Prop) : Prop where
  new : ∀ o e, Q (newRecord o e)
  placement : ∀ {r} p, Q r → Q { r with placement := p }
  silent : ∀ {r}, Q r → Q { r with silent := true }
  reconfigure : ∀ {r} o, Q r → Q (reconfigure r o)
  evaluate : ∀ {r} p x, Q r → Q (evaluate p x r).bin

/-- A law of the sheets, with what it says of the table alone (`W`) and of a record (`Q`). During a claim on slot `i`
the law is that of the part with the record `r` of that claim already written: `P (s.writeRecord i r)`. What works
without a claim on the Bin Table is checked with any table in place. -/
structure SheetLaw (W : BinTable → Prop) (Q : BinRecord → Prop) (P : State → Prop) : Prop where
  records : RecordProperty Q
  congr : ∀ {s t : State}, sameSheets s t → P s → P t
  onReset : P State.reset
  ofTable : ∀ {s : State}, P s → W s.table
  ofRecord : ∀ {s : State} {i r d}, P s → s.table.get i = .live r d → Q r
  onCutoff : ∀ {s : State} {t} q, P (s.setTable t) → P ((cutoff s q).1.setTable t)
  onReturnSide : ∀ {s : State} {t p q}, (s.port p).state.reads = some q → P (s.setTable t) →
    P ((returnSide s p q).1.setTable t)
  onLooseEnds : ∀ {s : State} {t p q}, (s.port p).state = .waiting q → P (s.setTable t) →
    P ((looseEnds s p q).setTable t)
  onBindPort : ∀ {s : State} {t p q}, (s.port p).state = .unbound → (s.round q).bound = none → P (s.setTable t) →
    P ((bindPort s p q).setTable t)
  onRewindPort : ∀ {s : State} {t p q}, (s.port p).state.reads = some q → P (s.setTable t) →
    P ((rewindPort s p q).setTable t)
  onConfigure : ∀ {s : State} {t q} {o : RoundPut}, o.inRange = true → o.cap ≤ 255 → (s.round q).fill.length ≤ o.cap →
    (s.round q).other.length ≤ o.cap → P (s.setTable t) → P ((s.setRound q ((s.round q).configure o)).setTable t)
  onDraw : ∀ {s : State} {p q} n, (s.port p).state = .reading q → P s →
    P (moveCursor s p q ((s.port p).cursor + (((s.round q).other.drop (s.port p).cursor).take n).length))
  onUsed : ∀ {s : State} {p q}, (s.port p).state = .exhausted q → P s → P (s.setPort p (s.port p).used)
  onRelease : ∀ {s : State} {p q}, (s.port p).state.reads = some q → P s → P (releaseSide s p q).1
  onAge : ∀ {s : State} n, P s → P (s.setPorts (Vec.map (Port.age n) s.ports))
  onFail : ∀ {s : State} l, P s → P (s.setTable (s.table.fail l))
  onError : ∀ {s : State} {i}, s.table.holds i → P s → P (storeError s i)
  onDrop : ∀ {s : State} {i}, s.table.holds i → P s → P (dropSlot s i)
  onReclaim : ∀ {s : State} {i}, s.table.get i = .tombstone → s.table.get ((i + 1) % 8192) = .empty → P s →
    P (s.setTable (s.table.put i .empty))
  onRestart : ∀ {s : State}, P s → P (restartTable s)
  onInsert : ∀ {s : State} {i r}, lookup s.table r.binId = .notFound → usableSlot s.table r.binId = some i →
    r.placement = .none → Q r → P s → P (s.writeRecord i r)
  onRewrite : ∀ {s : State} {i r d r'}, s.table.get i = .live r d → sameForSheets r r' → Q r' → P s →
    P (s.writeRecord i r')
  onWithdraw : ∀ {s : State} {i r r' m}, m ≠ .none → r'.binId = r.binId → r'.placement = .none → Q r' → W s.table →
    P (s.writeRecord i r) → P ((detach s i m).writeRecord i r')
  onPlace : ∀ {s : State} {i r} c, Q r → W s.table → P (s.writeRecord i r) →
    P ((place s i r c).1.writeRecord i { r with placement := (place s i r c).2.placement r.placement })

namespace SheetLaw

variable {W : BinTable → Prop} {Q : BinRecord → Prop} {P : State → Prop} (L : SheetLaw W Q P) {s : State}

/-- What keeps the law with any table in place, and leaves the table alone, keeps the law. -/
theorem of_anyTable {t : State} (same : t.table = s.table) (h : ∀ u, P (s.setTable u) → P (t.setTable u)) (hs : P s) :
    P t := by
  have kept := h s.table hs
  rwa [← same, setTable_self] at kept

include L

theorem reply_keeps (r : Request) (q : ResultCode) (d : List Byte) (hs : P s) : P (reply s r q d) :=
  L.congr (by simp [sameSheets]) hs

theorem reply_table {x : BinTable} (r : Request) (q : ResultCode) (d : List Byte) (hs : P (s.setTable x)) :
    P ((reply s r q d).setTable x) :=
  L.congr (by simp [sameSheets]) hs

/-- An answer, and what else touches no sheet, does not matter to a law of the sheets, whatever the table. -/
theorem congr_table {t u : State} {x : BinTable} (h : u.rounds = t.rounds ∧ u.free = t.free ∧ u.ports = t.ports)
    (ht : P (t.setTable x)) : P (u.setTable x) :=
  L.congr (by simpa [sameSheets] using h) ht

/-! ## Intake -/

theorem lookupClaim_keeps (f : LaneFrame) (x : SensorFrame) (hs : P s) : P (lookupClaim s f x) := by
  unfold lookupClaim
  cases found : lookup s.table x.binId with
  | notFound => exact L.congr (by simp [sameSheets]) hs
  | error i =>
    obtain ⟨-, r, d, live, -⟩ := lookup_error found
    exact L.congr (by simp [sameSheets]) (L.onError ⟨r, d, live⟩ hs)
  | found i r =>
    dsimp only
    split
    · exact L.congr (by simp [sameSheets]) hs
    · split <;> exact L.congr (by simp [sameSheets]) hs

theorem takeFrame_keeps (f : LaneFrame) (hs : P s) : P (takeFrame s f) := by
  unfold takeFrame
  split
  · exact L.congr (by simp [sameSheets]) hs
  · split
    · exact L.congr (by simp [sameSheets]) hs
    · exact L.lookupClaim_keeps _ _ (L.congr (by simp [sameSheets]) hs)

theorem takeHead_keeps (hs : P s) : P (takeHead s) := by
  unfold takeHead
  split
  · split
    · exact L.takeFrame_keeps _ hs
    · exact hs
  · exact hs

theorem stepRequest_keeps (r : Request) (hs : P s) : P (stepRequest r s) := by
  unfold stepRequest
  split
  · split
    · exact L.congr (by simp [sameSheets]) hs
    · exact L.congr (by simp [sameSheets]) hs
    · split
      · exact L.congr (by simp [sameSheets]) hs
      · exact L.takeFrame_keeps _ (L.congr (by simp [sameSheets]) hs)
  · exact L.congr (by simp [sameSheets]) hs

/-! ## What the Sheet Builder works without a claim on the Bin Table -/

theorem takeCutoff_keeps {t : BinTable} (q : Fin 64) (hs : P (s.setTable t)) : P ((takeCutoff s q).setTable t) := by
  unfold takeCutoff
  split
  · exact L.onCutoff q (L.congr_table (by simp) hs)
  · exact hs

theorem takeExpiry_keeps {t : BinTable} (p : Fin 4) (hs : P (s.setTable t)) : P ((takeExpiry p s).setTable t) := by
  unfold takeExpiry
  split
  · split
    · rename_i q reads
      exact L.congr_table (by simp [expirePort]) (L.onReturnSide reads hs)
    · exact hs
  · exact hs

theorem takeSheetEvent_keeps {t : BinTable} (e : SheetEvent) (hs : P (s.setTable t)) :
    P ((takeSheetEvent s e).setTable t) := by
  cases e with
  | cutoff n =>
    simp only [takeSheetEvent]
    split
    · exact L.takeCutoff_keeps _ hs
    · exact hs
  | expiry n =>
    simp only [takeSheetEvent]
    split
    · exact L.takeExpiry_keeps _ hs
    · exact hs

theorem bindRequest_keeps {t : BinTable} (r : Request) (hs : P (s.setTable t)) : P ((bindRequest r s).setTable t) := by
  unfold bindRequest
  split
  · split
    · exact L.reply_table _ _ _ hs
    · split
      · split
        · exact L.reply_table _ _ _ hs
        · rename_i unbound
          split
          · exact L.reply_table _ _ _ hs
          · rename_i free
            exact L.reply_table _ _ _ (L.onBindPort (by simpa using unbound) (by simpa using free) hs)
      · exact L.reply_table _ _ _ hs
  · exact L.reply_table _ _ _ hs

theorem unbindPort_keeps {t : BinTable} (p : Fin 4) (hs : P (s.setTable t)) :
    P ((unbindPort s p).1.setTable t) := by
  unfold unbindPort
  split
  · exact hs
  · rename_i q waiting
    exact L.onLooseEnds waiting hs
  · rename_i q reading
    exact L.onReturnSide (by simp [reading, PortState.reads]) hs
  · rename_i q exhausted
    exact L.onReturnSide (by simp [exhausted, PortState.reads]) hs

theorem unbindRequest_keeps {t : BinTable} (r : Request) (hs : P (s.setTable t)) :
    P ((unbindRequest r s).setTable t) := by
  unfold unbindRequest
  split
  · split
    · exact L.reply_table _ _ _ (L.unbindPort_keeps _ hs)
    · exact L.reply_table _ _ _ hs
  · exact L.reply_table _ _ _ hs

theorem rewindRequest_keeps {t : BinTable} (r : Request) (hs : P (s.setTable t)) :
    P ((rewindRequest r s).setTable t) := by
  unfold rewindRequest
  split
  · split
    · exact L.reply_table _ _ _ hs
    · split
      · exact L.reply_table _ _ _ hs
      · split
        · exact L.reply_table _ _ _ hs
        · exact L.reply_table _ _ _ hs
        · rename_i q reading
          exact L.reply_table _ _ _ (L.onRewindPort (by simp [reading, PortState.reads]) hs)
        · rename_i q exhausted
          exact L.reply_table _ _ _ (L.onRewindPort (by simp [exhausted, PortState.reads]) hs)
  · exact L.reply_table _ _ _ hs

theorem roundPutRequest_keeps {t : BinTable} (r : Request) (hs : P (s.setTable t)) :
    P ((roundPutRequest r s).setTable t) := by
  unfold roundPutRequest
  split
  · split
    · exact L.reply_table _ _ _ hs
    · split
      · rename_i q o operands
        split
        · exact L.reply_table _ _ _ hs
        · rename_i room
          obtain ⟨inRange, cap⟩ := roundPutOperands_inRange operands
          exact L.reply_table _ _ _
            (L.onConfigure inRange cap (by omega) (by omega) hs)
      · exact L.reply_table _ _ _ hs
  · exact L.reply_table _ _ _ hs

theorem cutoffNowRequest_keeps {t : BinTable} (r : Request) (hs : P (s.setTable t)) :
    P ((cutoffNowRequest r s).setTable t) := by
  unfold cutoffNowRequest
  split
  · split
    · exact L.reply_table _ _ _ hs
    · split
      · exact L.reply_table _ _ _ (L.onCutoff _ hs)
      · exact L.reply_table _ _ _ hs
  · exact L.reply_table _ _ _ hs

theorem workSheetRequest_keeps {t : BinTable} (hs : P (s.setTable t)) : P ((workSheetRequest s).setTable t) := by
  unfold workSheetRequest
  split
  · split
    · exact L.bindRequest_keeps _ hs
    · exact L.unbindRequest_keeps _ hs
    · exact L.rewindRequest_keeps _ hs
    · exact L.congr_table (by simp) hs
    · exact L.roundPutRequest_keeps _ hs
    · exact L.congr_table (by simp) hs
    · exact L.cutoffNowRequest_keeps _ hs
    · exact hs
  · exact hs

theorem takeBetween_keeps {t : BinTable} (b : Between) (hs : P (s.setTable t)) : P ((takeBetween s b).setTable t) := by
  cases b with
  | event e => exact L.takeSheetEvent_keeps e hs
  | requestTake => exact L.congr_table (by simp [takeBetween]) hs
  | sheetRequest => exact L.workSheetRequest_keeps hs
  | statusRead items => exact L.congr_table (by simp [takeBetween]) hs

theorem takeSheetEvents_keep {t : BinTable} (l : List SheetEvent) (hs : P (s.setTable t)) :
    P ((l.foldl takeSheetEvent s).setTable t) := by
  induction l generalizing s with
  | nil => exact hs
  | cons e l ih => exact ih (L.takeSheetEvent_keeps e hs)

theorem takeBetweens_keep {t : BinTable} (l : List Between) (hs : P (s.setTable t)) :
    P ((l.foldl takeBetween s).setTable t) := by
  induction l generalizing s with
  | nil => exact hs
  | cons b l ih => exact ih (L.takeBetween_keeps b hs)

end SheetLaw

end Sys2Proof.Machine
end

section
/-! PROOFS. Laws of the sheets, continued: the claims on the Bin Table (readings, the table requests, the sweep), and
the theorem that every command keeps a law of the sheets. -/

namespace Sys2Proof.Machine

/-! ## The table under what falls between two operations of one claim -/

@[simp] theorem workSheetRequest_table (s : State) : (workSheetRequest s).table = s.table := by
  unfold workSheetRequest
  repeat' split
  all_goals simp

@[simp] theorem takeBetween_table (s : State) (b : Between) : (takeBetween s b).table = s.table := by
  cases b <;> simp [takeBetween]

@[simp] theorem takeBetweens_table (l : List Between) (s : State) : (l.foldl takeBetween s).table = s.table := by
  induction l generalizing s with
  | nil => rfl
  | cons b l ih => simp [ih]

theorem takeCutoff_table (s : State) (q : Fin 64) : (takeCutoff s q).table = s.table := by simp

/-! ## What a reading leaves of a record for the Sheet Builder -/

theorem evaluateReading_sheets (p : Profile) (x : InFlight) (y : Reading) :
    (evaluateReading p x y).bin.binId = y.bin.binId ∧ (evaluateReading p x y).bin.round = y.bin.round ∧
    (evaluateReading p x y).bin.placement = if x.sensor.lift then .none else y.bin.placement := by
  have filled := evaluateFill_fields p x.arrivalEpoch (fillOf p x.sensor.distance) y
  unfold evaluateReading
  split
  · simp [liftRecord, *]
  · split
    · simp [refuseReading, *]
    · split
      · dsimp only; split <;> simp [*]
      · split
        · simp [refuseReading, *]
        · rw [checkOverflow_eq]
          unfold sameParticulars at filled
          have urgent := makeUrgent_fields x.arrivalEpoch
            (evaluateFill p x.arrivalEpoch (fillOf p x.sensor.distance) y).bin
          unfold sameParticulars at urgent
          split <;> simp [*]

theorem evaluate_sheets (p : Profile) (x : InFlight) (r : BinRecord) :
    (evaluate p x r).bin.binId = r.binId ∧ (evaluate p x r).bin.round = r.round ∧
    (evaluate p x r).bin.placement = if x.sensor.lift then .none else r.placement := by
  obtain ⟨particulars, placement, -⟩ := applyEvents_fields p x (evaluateReading p x (writeParticulars x r))
  obtain ⟨binId, -, round, -⟩ := particulars
  obtain ⟨readId, readRound, readPlacement⟩ := evaluateReading_sheets p x (writeParticulars x r)
  exact ⟨binId.trans readId, round.trans readRound, placement.trans readPlacement⟩

/-! ## The slot whose failed check code a Place finds -/

theorem claimUnplaced_stops_at {s : State} {i : Nat} (running : s.intake.state ≠ .stopped)
    (stops : (claimUnplaced s i).1.intake.state = .stopped) :
    (claimUnplaced s i).1.cond.latestSlot = some i ∧ s.table.holds i := by
  refine ⟨claimUnplaced_stops running stops, ?_⟩
  unfold claimUnplaced at stops
  split at stops
  · rename_i r d live
    exact ⟨r, d, live⟩
  · exact absurd stops running

theorem place_stops_at {s : State} {i : Nat} {r : BinRecord} {c : EntryClass} (running : s.intake.state ≠ .stopped)
    (stops : (place s i r c).1.intake.state = .stopped) :
    ∃ j, (place s i r c).1.cond.latestSlot = some j ∧ s.table.holds j := by
  rcases place_cases s i r c with ⟨h, -⟩ | ⟨u, w, h, -⟩ | ⟨u, l, h, -⟩ | ⟨u, l, h, -⟩ | ⟨h, -⟩ |
    ⟨q, -, -, ⟨-, -, h⟩ | ⟨front, last, -, -, -, h⟩⟩ <;> rw [h] at stops ⊢
  case inr.inr.inr.inr.inr.inr => exact ⟨last.slot, claimUnplaced_stops_at running stops⟩
  all_goals exact absurd stops running

/-- A BIN PUT that ends with the part STOPPED has found the failed check code in a slot of the table it began with. -/
theorem updateBin_failedSlot {s : State} {i j : Nat} {x : BinRecord} {o : BinPut} {between : List SheetEvent}
    (running : s.isStopped = false) (failed : (updateBin s i x o between).1.failedSlot = some j) :
    s.table.holds j := by
  have notStopped : s.intake.state ≠ .stopped := by simpa [State.isStopped] using running
  unfold State.failedSlot at failed
  split at failed
  · rename_i stopped
    have stops : (updateBin s i x o between).1.intake.state = .stopped := of_decide_eq_true stopped
    unfold updateBin placeMoved at stops failed
    split at stops
    · exact absurd stops notStopped
    · rename_i moved
      rw [if_neg moved] at failed
      have before : (between.foldl takeSheetEvent (detach s i .withdrawn)).intake.state ≠ .stopped := by simpa
      split at stops
      · obtain ⟨k, latest, holds⟩ := place_stops_at before stops
        simp only [*] at failed
        simp only [takeSheetEvents_frame, detach_frame] at holds
        exact Option.some.inj failed ▸ holds
      · exact absurd stops before
  · cases failed

theorem readEntries_error {t : BinTable} {l : List Entry} {i : Nat} (h : readEntries t l = .error i) : t.holds i := by
  induction l with
  | nil => cases h
  | cons e l ih =>
    have rest : ∀ b, (readEntries t l).prepend b = .error i → t.holds i := by
      intro b failed
      cases read : readEntries t l with
      | entries data => rw [read] at failed; cases failed
      | error j => rw [read] at failed; exact ih (read.trans failed)
    unfold readEntries at h
    split at h
    · exact rest _ h
    · split at h
      · rename_i r d live
        split at h
        · exact DrawRead.error.inj h ▸ ⟨r, d, live⟩
        · exact rest _ h
      · exact rest _ h

theorem Slot.fails_holds {t : BinTable} {i : Nat} (h : (t.get i).fails = true) : t.holds i := by
  cases slot : t.get i with
  | live r d => exact ⟨r, d, slot⟩
  | empty | tombstone | damaged => rw [slot] at h; cases h

namespace SheetLaw

variable {W : BinTable → Prop} {Q : BinRecord → Prop} {P : State → Prop} (L : SheetLaw W Q P) {s : State}
include L

/-- A record is read and verified: the law is that of the part with the same record written. -/
theorem open_claim {i : Nat} {r : BinRecord} {d : Word16} (live : s.table.get i = .live r d) (hs : P s) :
    P (s.writeRecord i r) :=
  L.onRewrite live ⟨rfl, rfl, rfl⟩ (L.ofRecord hs live) hs

/-! ## Readings -/

theorem makeSheetRequest_keeps {i : Nat} {r : BinRecord} (request : SheetRequest) (hQ : Q r) (hW : W s.table)
    (hs : P (s.writeRecord i r)) :
    P ((makeSheetRequest s i r request).1.writeRecord i (makeSheetRequest s i r request).2.1) := by
  cases request with
  | place c => exact L.onPlace c hQ hW hs
  | withdraw => exact L.onWithdraw (r := r) (by decide) rfl rfl (L.records.placement _ hQ) hW hs
  | nothing => exact hs

theorem applyRecord_keeps {x : InFlight} {r : BinRecord} {d : Word16} (between : List Between)
    (live : s.table.get x.slot = .live r d) (hs : P s) : P (applyRecord s x r between) := by
  have hW := L.ofTable hs
  have hQ := L.ofRecord hs live
  have evaluated := L.records.evaluate (Vec.get s.profiles r.profile) x hQ
  obtain ⟨binId, round, placement⟩ := evaluate_sheets (Vec.get s.profiles r.profile) x r
  unfold applyRecord
  generalize evaluate (Vec.get s.profiles r.profile) x r = y at evaluated binId round placement
  dsimp only
  -- the Serve of a LIFT
  have served : ∃ u, (if x.sensor.lift then detach s x.slot .served else s) = u ∧ u.table = s.table ∧
      P (u.writeRecord x.slot y.bin) := by
    refine ⟨_, rfl, ?_, ?_⟩
    · split <;> simp
    · cases lift : x.sensor.lift with
      | true => exact L.onWithdraw (by decide) binId (by simp [placement, lift]) evaluated hW (L.open_claim live hs)
      | false => exact L.onRewrite live ⟨binId, round, by simp [placement, lift]⟩ evaluated hs
  obtain ⟨u, hu, sameTable, written⟩ := served
  rw [hu]
  -- what falls between the two operations
  have between_kept : P ((between.foldl takeBetween u).writeRecord x.slot y.bin) := by
    have := L.takeBetweens_keep between written
    rwa [writeRecord_frame, takeBetweens_table]
  -- the request of step 15, and the frame's end
  have requested := L.makeSheetRequest_keeps y.sheetRequest evaluated (by simpa [sameTable] using hW) between_kept
  split <;> exact L.congr (by simp [sameSheets]) requested

theorem applyInFlight_keeps (x : InFlight) (between : List Between) (hs : P s) :
    P (applyInFlight s x between) := by
  unfold applyInFlight
  split
  · rename_i r d live
    split
    · exact L.congr (by simp [sameSheets]) (L.onError ⟨r, d, live⟩ hs)
    · split
      · exact L.congr (by simp [sameSheets]) hs
      · exact L.applyRecord_keeps between live hs
  · split <;> exact L.congr (by simp [sameSheets]) hs

theorem applyClaim_keeps (between : List Between) (hs : P s) : P (applyClaim between s) := by
  unfold applyClaim
  split
  · exact L.applyInFlight_keeps _ between hs
  · exact hs

/-! ## The table requests -/

theorem updateBin_keeps {i : Nat} {x : BinRecord} {o : BinPut} (between : List SheetEvent)
    (live : s.table.get i = .live x 0) (hs : P s) :
    P ((updateBin s i x o between).1.writeRecord i (updateBin s i x o between).2.1) := by
  have hQ := L.records.reconfigure o (L.ofRecord hs live)
  unfold updateBin
  split
  · rename_i sameRound
    exact L.onRewrite live ⟨rfl, sameRound, by simp [reconfigure, sameRound]⟩ hQ hs
  · rename_i otherRound
    have withdrawn : P ((detach s i .withdrawn).writeRecord i (reconfigure x o)) :=
      L.onWithdraw (r := x) (by decide) rfl (by simp [reconfigure, otherRound]) hQ (L.ofTable hs) (L.open_claim live hs)
    have taken : P ((between.foldl takeSheetEvent (detach s i .withdrawn)).writeRecord i (reconfigure x o)) := by
      have := L.takeSheetEvents_keep between withdrawn
      rw [writeRecord_frame]
      simpa using this
    unfold placeMoved
    split
    · exact L.onPlace _ hQ (by simpa using L.ofTable hs) taken
    · exact taken

theorem updateRequest_keeps {i : Nat} {x : BinRecord} {o : BinPut} (r : Request) (between : List SheetEvent)
    (running : s.isStopped = false) (live : s.table.get i = .live x 0) (hs : P s) :
    P (updateRequest s r i x o between) := by
  unfold updateRequest
  dsimp only
  split
  · rename_i slot failed
    have taken : P (between.foldl takeSheetEvent s) :=
      of_anyTable (by simp) (fun _ => L.takeSheetEvents_keep between) hs
    exact L.reply_keeps _ _ _ (L.onError (by simpa using updateBin_failedSlot running failed) taken)
  · have written := L.updateBin_keeps (o := o) between live hs
    refine L.reply_keeps _ _ _ ?_
    split
    · exact L.congr (by simp [sameSheets]) written
    · exact written

theorem putBin_keeps (r : Request) (o : BinPut) (between : List SheetEvent) (running : s.isStopped = false)
    (hs : P s) : P (putBin s r o between) := by
  unfold putBin
  cases found : lookup s.table o.binId with
  | notFound =>
    dsimp only
    unfold insertBin
    split
    · rename_i i usable
      exact L.reply_keeps _ _ _ (L.onInsert found usable rfl (L.records.new _ _) hs)
    · exact L.reply_keeps _ _ _ hs
  | error i =>
    obtain ⟨-, x, d, live, -⟩ := lookup_error found
    exact L.reply_keeps _ _ _ (L.onError ⟨x, d, live⟩ hs)
  | found i x =>
    obtain ⟨-, live, binId⟩ := lookup_found found
    dsimp only
    split
    · exact L.reply_keeps _ _ _
        (L.onWithdraw (by decide) binId.symm rfl (L.records.new _ _) (L.ofTable hs) (L.open_claim live hs))
    · exact L.updateRequest_keeps r between running live hs

theorem binPutRequest_keeps (between : List SheetEvent) (r : Request) (hs : P s) :
    P (binPutRequest between r s) := by
  unfold binPutRequest
  split
  · split
    · exact L.reply_keeps _ _ _ hs
    · rename_i running
      split
      · exact L.putBin_keeps r _ between (by simpa using running) hs
      · exact L.reply_keeps _ _ _ hs
  · exact L.reply_keeps _ _ _ hs

theorem binGetRequest_keeps (r : Request) (hs : P s) : P (binGetRequest r s) := by
  unfold binGetRequest
  split
  · split
    · rename_i id _
      unfold getBin
      cases found : lookup s.table id with
      | notFound | found i x => exact L.reply_keeps _ _ _ hs
      | error i =>
        obtain ⟨-, x, d, live, -⟩ := lookup_error found
        exact L.reply_keeps _ _ _ (L.onError ⟨x, d, live⟩ hs)
    · exact L.reply_keeps _ _ _ hs
  · exact L.reply_keeps _ _ _ hs

theorem binDropRequest_keeps (r : Request) (hs : P s) : P (binDropRequest r s) := by
  unfold binDropRequest
  split
  · split
    · exact L.reply_keeps _ _ _ hs
    · split
      · rename_i id _
        unfold dropBin
        cases found : lookup s.table id with
        | notFound => exact L.reply_keeps _ _ _ hs
        | error i =>
          obtain ⟨-, x, d, live, -⟩ := lookup_error found
          exact L.reply_keeps _ _ _ (L.onError ⟨x, d, live⟩ hs)
        | found i x =>
          obtain ⟨-, live, -⟩ := lookup_found found
          exact L.reply_keeps _ _ _ (L.onDrop ⟨x, 0, live⟩ hs)
      · exact L.reply_keeps _ _ _ hs
  · exact L.reply_keeps _ _ _ hs

theorem tableReadRequest_keeps (r : Request) (hs : P s) : P (tableReadRequest r s) := by
  unfold tableReadRequest
  split
  · split
    · exact L.reply_keeps _ _ _ hs
    · split
      · rename_i slot found
        exact L.reply_keeps _ _ _ (L.onError (Slot.fails_holds (by simpa using List.find?_some found)) hs)
      · exact L.reply_keeps _ _ _ hs
  · exact L.reply_keeps _ _ _ hs

/-! ## DRAW and RELEASE -/

theorem drawRequest_keeps (r : Request) (hs : P s) : P (drawRequest r s) := by
  unfold drawRequest
  split
  · split
    · exact L.reply_keeps _ _ _ hs
    · split
      · exact L.reply_keeps _ _ _ hs
      · split
        · exact L.reply_keeps _ _ _ hs
        · split
          · exact L.reply_keeps _ _ _ hs
          · exact L.reply_keeps _ _ _ hs
          · rename_i q exhausted
            exact L.reply_keeps _ _ _ (L.onUsed exhausted hs)
          · rename_i q reading
            unfold drawEntries
            dsimp only
            split
            · rename_i slot failed
              exact L.reply_keeps _ _ _ (L.onError (readEntries_error failed) hs)
            · exact L.reply_keeps _ _ _ (L.onDraw _ reading hs)
  · exact L.reply_keeps _ _ _ hs

theorem releaseRequest_keeps (r : Request) (hs : P s) : P (releaseRequest r s) := by
  unfold releaseRequest
  split
  · split
    · exact L.reply_keeps _ _ _ hs
    · split
      · exact L.reply_keeps _ _ _ hs
      · split
        · exact L.reply_keeps _ _ _ hs
        · exact L.reply_keeps _ _ _ hs
        · rename_i q reading
          exact L.reply_keeps _ _ _ (L.onRelease (by rw [reading]; rfl) hs)
        · rename_i q exhausted
          exact L.reply_keeps _ _ _ (L.onRelease (by rw [exhausted]; rfl) hs)
  · exact L.reply_keeps _ _ _ hs

/-! ## The sweep -/

theorem makeVisitRequest_keeps {i : Nat} {x : BinRecord} {d : Word16} (request : VisitRequest)
    (live : s.table.get i = .live x d) (hs : P s) : P (makeVisitRequest s i x request) := by
  have hQ := L.ofRecord hs live
  cases request with
  | place c =>
    exact L.congr (by simp [sameSheets, makeVisitRequest]) (L.onPlace c hQ (L.ofTable hs) (L.open_claim live hs))
  | withdraw =>
    exact L.onWithdraw (r := x) (by decide) rfl rfl (L.records.placement _ hQ) (L.ofTable hs) (L.open_claim live hs)
  | nothing => exact L.open_claim live hs

theorem visitRecord_keeps {i : Nat} {x : BinRecord} {d : Word16} (live : s.table.get i = .live x d) (hs : P s) :
    P (visitRecord s i x) := by
  unfold visitRecord
  dsimp only
  split
  · have silenced : P (silenceBin s i x) := by
      have := L.onRewrite (r' := { x with silent := true }) live ⟨rfl, rfl, rfl⟩
        (L.records.silent (L.ofRecord hs live)) hs
      exact L.congr (by simp [sameSheets, silenceBin]) this
    refine L.makeVisitRequest_keeps (d := 0) _ ?_ silenced
    simp [silenceBin, State.writeRecord, BinTable.get_put_live]
  · exact L.makeVisitRequest_keeps _ live hs

theorem visitSlot_keeps (i : Nat) (hs : P s) : P (visitSlot s i) := by
  unfold visitSlot
  split
  · rename_i x d live
    split
    · exact L.onError ⟨x, d, live⟩ hs
    · exact L.visitRecord_keeps live hs
  · rename_i tombstone
    split
    · rename_i empty
      exact L.congr (by simp [sameSheets]) (L.onReclaim tombstone (Slot.eq_empty empty) hs)
    · exact hs
  · exact hs
  · exact hs

theorem sweepVisit_keeps (hs : P s) : P (sweepVisit s) := by
  unfold sweepVisit
  split
  · exact L.congr (by simp [sameSheets]) (L.visitSlot_keeps s.sweep.cursor hs)
  · exact hs

/-! ## The tick, RESTART, RST# -/

theorem tickAll_keeps (failed : List (Nat × Word16)) (hs : P s) : P (tickAll failed s) :=
  L.onFail failed (s := (((s.setTime s.time.advance).setIntake (s.intake.age s.time.advance.tick)).setPorts
    (Vec.map (Port.age s.drawTimeout) s.ports))) (L.congr (by simp [sameSheets]) (L.onAge s.drawTimeout hs))

theorem restartStep_keeps (hs : P s) : P (restartStep s) := by
  unfold restartStep
  split
  · refine L.congr (by simp [sameSheets]) (?_ : P (restartIntakeEnd s))
    unfold restartIntakeEnd
    split
    · exact L.applyInFlight_keeps _ [] hs
    · exact hs
  case h_3 => exact L.congr (by simp [sameSheets]) (L.onRestart hs)
  all_goals exact L.congr (by simp [sameSheets]) hs

theorem restartSteps_keep (n : Nat) (hs : P s) : P (restartSteps n s) := by
  induction n generalizing s with
  | zero => exact hs
  | succ n ih => exact ih (L.restartStep_keeps hs)

/-! ## Every command -/

theorem exec_keeps {c : Instr} {t : State} (hs : P s) (h : exec c s = .next t) : P t := by
  have congr : ∀ {u}, sameSheets s u → P u := fun same => L.congr same hs
  have plain : ∀ {u : State}, u.table = s.table → (∀ x, P (s.setTable x) → P (u.setTable x)) → P u :=
    fun same keeps => of_anyTable same keeps hs
  cases c with
  | laneFrameEnd n b =>
    rw [exec_laneFrameEnd] at h
    split at h
    · exact event_keeps hs (congr (by simp [sameSheets])) h
    · cases h
  | frameTake => exact event_keeps hs (L.takeHead_keeps hs) h
  | applyClaim between => exact event_keeps hs (L.applyClaim_keeps between hs) h
  | tick failed => exact event_keeps hs (L.tickAll_keeps failed hs) h
  | epochEnd => exact event_keeps (f := fun s => s.setTime s.time.endEpoch) hs (congr (by simp [sameSheets])) h
  | sweepTrigger => exact event_keeps hs (congr (by simp [sameSheets])) h
  | minuteChange => exact event_keeps hs (congr (by simp [sameSheets])) h
  | cutoffEvent q =>
    rw [exec_cutoffEvent] at h
    split at h
    · exact event_keeps hs (plain (takeCutoff_table s _) fun _ => L.takeCutoff_keeps _) h
    · cases h
  | drawTimerExpiry p =>
    rw [exec_drawTimerExpiry] at h
    split at h
    · exact event_keeps hs (plain (by simp) fun _ => L.takeExpiry_keeps _) h
    · cases h
  | sweepVisit => exact event_keeps hs (L.sweepVisit_keeps hs) h
  | linkFrameReceived b c => exact event_keeps hs (congr (by simp [sameSheets])) h
  | linkIdleTimeout b => exact event_keeps hs (congr (by simp [sameSheets])) h
  | requestTake => exact event_keeps hs (congr (by simp [sameSheets])) h
  | unknownRequest => exact event_keeps hs (congr (by simp [sameSheets])) h
  | uplinkFrameSent => exact event_keeps hs (congr (by simp [sameSheets])) h
  | noticeBuild => exact event_keeps hs (congr (by simp [sameSheets])) h
  | hold => exact onRequest_keeps hs (fun r _ => congr (by simp [sameSheets])) h
  | resume => exact onRequest_keeps hs (fun r _ => congr (by simp [sameSheets])) h
  | step => exact onRequest_keeps hs (fun r _ => L.stepRequest_keeps r hs) h
  | windowRead => exact onRequest_keeps hs (fun r _ => congr (by simp [sameSheets])) h
  | binPut between => exact onRequest_keeps hs (fun r _ => L.binPutRequest_keeps between r hs) h
  | binGet => exact onRequest_keeps hs (fun r _ => L.binGetRequest_keeps r hs) h
  | binDrop => exact onRequest_keeps hs (fun r _ => L.binDropRequest_keeps r hs) h
  | tableRead => exact onRequest_keeps hs (fun r _ => L.tableReadRequest_keeps r hs) h
  | profilePut => exact onRequest_keeps hs (fun r _ => congr (by simp [sameSheets])) h
  | profileGet => exact onRequest_keeps hs (fun r _ => congr (by simp [sameSheets])) h
  | bind => exact onRequest_keeps hs (fun r _ => plain (by simp) fun _ => L.bindRequest_keeps r) h
  | unbind => exact onRequest_keeps hs (fun r _ => plain (by simp) fun _ => L.unbindRequest_keeps r) h
  | draw => exact onRequest_keeps hs (fun r _ => L.drawRequest_keeps r hs) h
  | rewind => exact onRequest_keeps hs (fun r _ => plain (by simp) fun _ => L.rewindRequest_keeps r) h
  | release => exact onRequest_keeps hs (fun r _ => L.releaseRequest_keeps r hs) h
  | portGet => exact onRequest_keeps hs (fun r _ => congr (by simp [sameSheets])) h
  | clockSet => exact onRequest_keeps hs (fun r _ => congr (by simp [sameSheets])) h
  | timeGet => exact onRequest_keeps hs (fun r _ => congr (by simp [sameSheets])) h
  | rulePut => exact onRequest_keeps hs (fun r _ => congr (by simp [sameSheets])) h
  | ruleGet => exact onRequest_keeps hs (fun r _ => congr (by simp [sameSheets])) h
  | maskPut => exact onRequest_keeps hs (fun r _ => congr (by simp [sameSheets])) h
  | conditionRead => exact onRequest_keeps hs (fun r _ => congr (by simp [sameSheets])) h
  | roundPut => exact onRequest_keeps hs (fun r _ => plain (by simp) fun _ => L.roundPutRequest_keeps r) h
  | roundGet => exact onRequest_keeps hs (fun r _ => congr (by simp [sameSheets])) h
  | cutoffNow => exact onRequest_keeps hs (fun r _ => plain (by simp) fun _ => L.cutoffNowRequest_keeps r) h
  | sweep => exact onRequest_keeps hs (fun r _ => congr (by simp [sameSheets])) h
  | sweepAbort => exact onRequest_keeps hs (fun r _ => congr (by simp [sameSheets])) h
  | sweepReport => exact onRequest_keeps hs (fun r _ => congr (by simp [sameSheets])) h
  | status items => exact event_keeps hs (congr (by simp [sameSheets])) h
  | counters => exact onRequest_keeps hs (fun r _ => congr (by simp [sameSheets])) h
  | laneEnable => exact onSetting_keeps hs (fun r v _ => congr (by simp [sameSheets])) h
  | dedupHold => exact onSetting_keeps hs (fun r v _ => congr (by simp [sameSheets])) h
  | epochPeriod => exact onSetting_keeps hs (fun r v _ => congr (by simp [sameSheets])) h
  | sweepInterval => exact onSetting_keeps hs (fun r v _ => congr (by simp [sameSheets])) h
  | drawIdleLimit => exact onSetting_keeps hs (fun r v _ => congr (by simp [sameSheets])) h
  | settingGet => exact onRequest_keeps hs (fun r _ => congr (by simp [sameSheets])) h
  | noticeEnable => exact onRequest_keeps hs (fun r _ => congr (by simp [sameSheets])) h
  | noticeClear => exact onRequest_keeps hs (fun r _ => congr (by simp [sameSheets])) h
  | restart n =>
    exact event_keeps (f := fun s => restartSteps n (beginRestart s)) hs
        (L.restartSteps_keep n (congr (by simp [sameSheets]))) h
  | rstAssert =>
    refine event_keeps (f := fun s => ((State.reset.setPending s.pending).setRstLow true).setTxOut (cutTx s)) hs ?_ h
    exact (L.congr (by simp [sameSheets]) L.onReset)
  | rstRelease high asserted =>
    rw [exec_rstRelease] at h
    split at h
    · exact Host.Outcome.next.inj h ▸ L.congr (by simp [sameSheets, released]) L.onReset
    · exact Host.Outcome.next.inj h ▸ hs
  | badFrameBeforeCrc cause => exact event_keeps hs (congr (by simp [sameSheets])) h
  | settingPutUnknownItem => exact onRequest_keeps hs (fun r _ => congr (by simp [sameSheets])) h

/-- Every step keeps a law of the sheets. -/
theorem kept : Kept P :=
  kept_of_exec (fun _ _ hs => L.congr (by simp [sameSheets]) hs) fun _ _ _ => L.exec_keeps

end SheetLaw

end Sys2Proof.Machine
end

section
/-! PROOFS. Laws of the Bin Table alone: its canonical form and the records' fields (O53), the probe windows (O54). -/

namespace Sys2Proof.Machine

/-! ## What the Sheet Builder's claims do to the table -/

/-- `u` is `t`, or `t` after a claim of the Sheet Builder on another bin's LIVE slot: DAMAGED, or UNPLACED (R24, R59). -/
def BinTable.claimed (t u : BinTable) : Prop :=
  u = t ∨ ∃ i r d, t.get i = .live r d ∧
    (u = t.put i .damaged ∨ u = t.put i (.live { r with placement := .unplaced } 0))

theorem claimUnplaced_claimed (s : State) (i : Nat) : s.table.claimed (claimUnplaced s i).1.table := by
  unfold claimUnplaced
  split
  · rename_i r d live
    split
    · exact Or.inr ⟨i, r, d, live, Or.inl (storeError_table s i)⟩
    · exact Or.inr ⟨i, r, d, live, Or.inr rfl⟩
  · exact Or.inl rfl

theorem place_claimed (s : State) (i : Nat) (r : BinRecord) (c : EntryClass) :
    s.table.claimed (place s i r c).1.table := by
  rcases place_cases s i r c with ⟨h, -⟩ | ⟨u, w, h, -⟩ | ⟨u, l, h, -⟩ | ⟨u, l, h, -⟩ | ⟨h, -⟩ |
    ⟨q, -, -, ⟨-, -, h⟩ | ⟨front, last, -, -, -, h⟩⟩ <;> rw [h]
  case inr.inr.inr.inr.inr.inr => exact claimUnplaced_claimed _ _
  all_goals exact Or.inl rfl

theorem carryOne_claimed (q : Fin 64) (acc : State × Figures) (e : Entry) :
    acc.1.table.claimed (carryOne q acc e).1.table := by
  obtain ⟨s, g⟩ := acc
  have dropped : s.table.claimed (claimUnplaced (s.setFree (s.free + 1)) e.slot).1.table :=
    claimUnplaced_claimed _ _
  unfold carryOne
  dsimp only
  split
  · exact Or.inl rfl
  · split
    · split
      · exact claimUnplaced_claimed _ _
      · split
        · simpa using dropped
        · exact dropped
    · split
      · simpa using dropped
      · exact dropped

theorem BinTable.not_empty_of_holds {t : BinTable} {i : Nat} (h : t.holds i) : t.get i ≠ .empty := by
  obtain ⟨r, d, live⟩ := h
  simp [live]

/-! ## A law of the table -/

/-- A law `T` of the Bin Table. During a claim on slot `i` it is the law of the table with the claim's record written,
and `W` is what the law says of the table besides. -/
structure TableLaw (W : BinTable → Prop) (Q : BinRecord → Prop) (T : BinTable → Prop) : Prop where
  records : RecordProperty Q
  onEmpty : T []
  weaken : ∀ {t}, T t → W t
  ofRecord : ∀ {t i r d}, T t → t.get i = .live r d → Q r
  onFail : ∀ {t} l, T t → T (t.fail l)
  onDamage : ∀ {t i}, t.holds i → T t → T (t.put i .damaged)
  onDelete : ∀ {t i}, t.holds i → T t → T (t.put i .tombstone)
  onReclaim : ∀ {t i}, t.get i = .tombstone → t.get ((i + 1) % 8192) = .empty → T t → T (t.put i .empty)
  onRestart : ∀ {t}, T t → T t.restart
  onInsert : ∀ {t i r}, lookup t r.binId = .notFound → usableSlot t r.binId = some i → Q r → T t →
    T (t.put i (.live r 0))
  onRewrite : ∀ {t i r d r'}, t.get i = .live r d → r'.binId = r.binId → Q r' → T t → T (t.put i (.live r' 0))
  onClaim : ∀ {t u i r r'}, t.claimed u → r'.binId = r.binId → Q r' → W t → T (t.put i (.live r 0)) →
    T (u.put i (.live r' 0))

namespace TableLaw

variable {W : BinTable → Prop} {Q : BinRecord → Prop} {T : BinTable → Prop} (L : TableLaw W Q T)
include L

theorem claimed {t u : BinTable} (h : t.claimed u) (ht : T t) : T u := by
  rcases h with rfl | ⟨i, r, d, live, rfl | rfl⟩
  · exact ht
  · exact L.onDamage ⟨r, d, live⟩ ht
  · exact L.onRewrite live rfl (L.records.placement _ (L.ofRecord ht live)) ht

theorem releaseSide {s : State} (p : Fin 4) (q : Fin 64) (hs : T s.table) : T (releaseSide s p q).1.table := by
  have carried : ∀ (l : List Entry) (acc : State × Figures), T acc.1.table → T (l.foldl (carryOne q) acc).1.table := by
    intro l
    induction l with
    | nil => exact fun _ h => h
    | cons e l ih => exact fun acc h => ih _ (L.claimed (carryOne_claimed q acc e) h)
  simp only [Machine.releaseSide, completeCutoff_frame]
  exact carried _ _ hs

/-- A law of the table is a law of the sheets. -/
theorem sheetLaw : SheetLaw W Q fun s => T s.table where
  records := L.records
  congr same h := same.1 ▸ h
  onReset := L.onEmpty
  ofTable := L.weaken
  ofRecord := L.ofRecord
  onCutoff _ h := h
  onReturnSide _ h := h
  onLooseEnds _ h := h
  onBindPort _ _ h := h
  onRewindPort _ h := h
  onConfigure _ _ _ _ h := h
  onDraw _ _ h := by simpa using h
  onUsed _ h := h
  onRelease _ h := L.releaseSide _ _ h
  onAge _ h := h
  onFail l h := L.onFail l h
  onError holds h := by simpa using L.onDamage holds h
  onDrop holds h := by simpa [dropSlot, markDropped] using L.onDelete holds h
  onReclaim tombstone next h := L.onReclaim tombstone next h
  onRestart h := L.onRestart h
  onInsert absent usable _ hQ h := L.onInsert absent usable hQ h
  onRewrite live same hQ h := L.onRewrite live same.1 hQ h
  onWithdraw _ binId _ hQ hW h := by
    have := L.onClaim (Or.inl rfl) binId hQ hW h
    simpa [State.writeRecord] using this
  onPlace c hQ hW h := L.onClaim (r := _) (place_claimed _ _ _ c) (by rfl) (L.records.placement _ hQ) hW h

end TableLaw

/-! ## The canonical form -/

theorem anyRecord : RecordProperty fun _ => True :=
  ⟨fun _ _ => trivial, fun _ _ => trivial, fun _ => trivial, fun _ _ => trivial, fun _ _ _ => trivial⟩

theorem BinTable.claimed_wf {t u : BinTable} (h : t.claimed u) (ht : t.wf) : u.wf := by
  rcases h with rfl | ⟨i, r, d, live, rfl | rfl⟩
  · exact ht
  · exact t.put_wf_of_get i _ ht (by simp [live])
  · exact t.put_wf_of_get i _ ht (by simp [live])

/-- A slot that is written in a canonical table has an index the table has. -/
theorem BinTable.put_live_lt {t : BinTable} {i : Nat} {r : BinRecord} {d : Word16} (h : (t.put i (.live r d)).wf) :
    i < 8192 :=
  BinTable.lt_of_get _ h i (by simp [get_put_live])

/-- What RESTART leaves LIVE was LIVE with the same record, PLACED or not, and is not PLACED (R41). -/
theorem Slot.restart_live {v : Slot} {r : BinRecord} {d : Word16} (h : v.restart = .live r d) :
    ∃ x e p, v = .live x e ∧ r = { x with placement := p } ∧ p ≠ .placed := by
  cases v with
  | live x e =>
    simp only [Slot.restart] at h
    split at h
    · cases h
    · split at h
      · exact ⟨x, e, .unplaced, rfl, (Slot.live.inj h).1.symm, by decide⟩
      · rename_i notPlaced
        exact ⟨x, e, x.placement, rfl, (Slot.live.inj h).1.symm, notPlaced⟩
  | empty | tombstone | damaged => cases h

theorem Slot.restart_isEmpty (v : Slot) : v.restart.isEmpty = v.isEmpty := by
  cases v with
  | live r d =>
    simp only [Slot.restart]
    split
    · rfl
    · split <;> rfl
  | empty | tombstone | damaged => rfl

theorem BinTable.restart_wf {t : BinTable} (h : t.wf) : t.restart.wf := by
  refine ⟨List.pairwise_map.mpr h.1, ?_⟩
  intro p hp
  obtain ⟨w, hw, rfl⟩ := List.mem_map.mp hp
  exact ⟨(h.2 w hw).1, (Slot.restart_isEmpty w.2).trans (h.2 w hw).2⟩

theorem wf_tableLaw : TableLaw BinTable.wf (fun _ => True) BinTable.wf where
  records := anyRecord
  onEmpty := ⟨List.Pairwise.nil, by simp⟩
  weaken h := h
  ofRecord _ _ := trivial
  onFail l h := BinTable.fail_wf l _ h
  onDamage holds h := BinTable.put_wf_of_get _ _ _ h (BinTable.not_empty_of_holds holds)
  onDelete holds h := BinTable.put_wf_of_get _ _ _ h (BinTable.not_empty_of_holds holds)
  onReclaim tombstone _ h :=
    BinTable.put_wf_of_get _ _ _ h (by simp [tombstone])
  onRestart h := BinTable.restart_wf h
  onInsert _ usable _ h := BinTable.put_wf _ _ _ h fun _ => (usableSlot_spec usable).1
  onRewrite live _ _ h := BinTable.put_wf_of_get _ _ _ h (by simp [live])
  onClaim claimed _ _ ht h := BinTable.put_wf _ _ _ (BinTable.claimed_wf claimed ht) fun _ => BinTable.put_live_lt h

/-! ## The records' fields -/

/-- Every record listed in the table has the fields its state calls for. -/
def BinTable.recordsLawful (t : BinTable) : Prop := ∀ i r d, (i, Slot.live r d) ∈ t → r.lawful

theorem recordLaw_iff (s : State) : RecordLaw s ↔ s.table.recordsLawful := Iff.rfl

theorem evaluateFill_lawful {p : Profile} {e : Word32} {f : Nat} {y : Reading} (hf : f ≤ 100)
    (heard : y.bin.lastSeq.isSome ∧ y.bin.lastLane.isSome ∧ y.bin.lastSignal.isSome ∧ y.bin.battery.isSome)
    (blank : y.bin.blankUntil.isSome ↔ y.bin.state = .blanked)
    (crossing : y.bin.crossing.isSome ↔ y.bin.state = .due ∨ y.bin.state = .urgent) :
    (evaluateFill p e f y).bin.lawful := by
  obtain ⟨seq, lane, signal, battery⟩ := heard
  unfold evaluateFill
  dsimp only
  cases state : y.bin.state with
  | urgent => simp_all [BinRecord.lawful]
  | due => dsimp only; split <;> simp_all [BinRecord.lawful]
  | unseen | normal | blanked => dsimp only; split <;> simp_all [BinRecord.lawful]

theorem makeUrgent_lawful {e : Word32} {r : BinRecord} (h : r.lawful) (seen : r.state ≠ .unseen) :
    (makeUrgent e r).lawful := by
  unfold makeUrgent
  split
  · exact h
  · unfold BinRecord.lawful at h ⊢
    dsimp only
    split <;> simp_all

theorem fillOf_le (p : Profile) (d : Nat) : fillOf p d ≤ 100 := by
  by_cases depths : p.fullDepth < p.emptyDepth
  · exact fillOf_le_hundred depths
  · unfold fillOf
    split
    · omega
    · split <;> omega

theorem evaluateReading_lawful (p : Profile) (x : InFlight) {r : BinRecord} (h : r.lawful) :
    (evaluateReading p x (writeParticulars x r)).bin.lawful ∧
      (evaluateReading p x (writeParticulars x r)).bin.state ≠ .unseen := by
  have h' := h
  unfold BinRecord.lawful at h
  obtain ⟨blank, crossing, -, -, -, -, unseen, fill⟩ := h
  unfold evaluateReading
  split
  · simpa [liftRecord, writeParticulars, BinRecord.lawful] using fill
  · split
    · rename_i blanked
      have state : r.state = .blanked := blanked.1
      simp_all [refuseReading, writeParticulars, BinRecord.lawful]
    · split
      · cases state : r.state <;> simp_all [writeParticulars, BinRecord.lawful]
      · split
        · rename_i refuses
          unfold stepRefuses at refuses
          cases state : r.state <;> simp_all [refuseReading, writeParticulars, BinRecord.lawful]
        · have filled : (evaluateFill p x.arrivalEpoch (fillOf p x.sensor.distance) (writeParticulars x r)).bin.lawful :=
            evaluateFill_lawful (fillOf_le _ _) (by simp [writeParticulars]) (by simpa [writeParticulars] using blank)
              (by simpa [writeParticulars] using crossing)
          have seen : (evaluateFill p x.arrivalEpoch (fillOf p x.sensor.distance) (writeParticulars x r)).bin.state ≠
              .unseen := by
            rw [(evaluateFill_state _ _ _ _).1]
            repeat' split
            all_goals decide
          rw [checkOverflow_eq]
          split
          · exact ⟨makeUrgent_lawful filled seen, by simp [(makeUrgent_fields _ _).2.2.2.2.2.2]⟩
          · exact ⟨filled, seen⟩

theorem evaluate_lawful (p : Profile) (x : InFlight) {r : BinRecord} (h : r.lawful) : (evaluate p x r).bin.lawful := by
  obtain ⟨lawful, seen⟩ := evaluateReading_lawful p x h
  unfold evaluate applyEvents
  dsimp only
  split
  · exact makeUrgent_lawful lawful seen
  · exact lawful

theorem lawful_records : RecordProperty BinRecord.lawful where
  new o e := by simp [newRecord, BinRecord.lawful]
  placement _ h := h
  silent h := h
  reconfigure _ h := h
  evaluate p x h := evaluate_lawful p x h

theorem BinTable.put_recordsLawful {t : BinTable} {i : Nat} {v : Slot} (ht : t.recordsLawful)
    (hv : ∀ r d, v = .live r d → r.lawful) : (t.put i v).recordsLawful := by
  intro j r d h
  rcases BinTable.mem_put _ _ _ _ h with ⟨same, -⟩ | h
  · exact hv r d (Prod.mk.inj same).2.symm
  · exact ht j r d h

theorem BinTable.get_lawful {t : BinTable} {i : Nat} {r : BinRecord} {d : Word16} (ht : t.recordsLawful)
    (live : t.get i = .live r d) : r.lawful :=
  ht i r d (live ▸ BinTable.mem_of_get t i (by simp [live]))

theorem BinTable.fail_recordsLawful (l : List (Nat × Word16)) {t : BinTable} (ht : t.recordsLawful) :
    (t.fail l).recordsLawful := by
  induction l generalizing t with
  | nil => exact ht
  | cons p l ih =>
    obtain ⟨i, d⟩ := p
    unfold BinTable.fail
    split
    · rename_i r old live
      refine ih (BinTable.put_recordsLawful ht ?_)
      rintro r' d' ⟨⟩
      exact BinTable.get_lawful ht live
    · exact ih ht

theorem BinTable.claimed_recordsLawful {t u : BinTable} (h : t.claimed u) (ht : t.recordsLawful) :
    u.recordsLawful := by
  rcases h with rfl | ⟨i, r, d, live, rfl | rfl⟩
  · exact ht
  · exact BinTable.put_recordsLawful ht (by simp)
  · refine BinTable.put_recordsLawful ht ?_
    rintro _ _ ⟨⟩
    exact lawful_records.placement _ (BinTable.get_lawful ht live)

theorem records_tableLaw : TableLaw BinTable.recordsLawful BinRecord.lawful BinTable.recordsLawful where
  records := lawful_records
  onEmpty := by simp [BinTable.recordsLawful]
  weaken h := h
  ofRecord h live := BinTable.get_lawful h live
  onFail l h := BinTable.fail_recordsLawful l h
  onDamage _ h := BinTable.put_recordsLawful h (by simp)
  onDelete _ h := BinTable.put_recordsLawful h (by simp)
  onReclaim _ _ h := BinTable.put_recordsLawful h (by simp)
  onRestart h := by
    intro i r d mem
    obtain ⟨⟨j, v⟩, listed, same⟩ := List.mem_map.mp mem
    obtain ⟨rfl, restarted⟩ := Prod.mk.inj same
    obtain ⟨x, e, p, rfl, rfl, -⟩ := Slot.restart_live restarted
    exact lawful_records.placement p (h _ _ _ listed)
  onInsert _ _ hQ h := BinTable.put_recordsLawful h (by rintro _ _ ⟨⟩; exact hQ)
  onRewrite _ _ hQ h := BinTable.put_recordsLawful h (by rintro _ _ ⟨⟩; exact hQ)
  onClaim claimed _ hQ ht _ :=
    BinTable.put_recordsLawful (BinTable.claimed_recordsLawful claimed ht) (by rintro _ _ ⟨⟩; exact hQ)

/-- Settles O53: the canonical form and the records' fields are laws of the table, each checked operation by
operation. -/
theorem tableAndRecordsKept : Obligations.TableAndRecordsKept :=
  ⟨wf_tableLaw.sheetLaw.kept, records_tableLaw.sheetLaw.kept⟩

/-! ## The probe windows -/

/-- The two laws of R26 and R28, of a table. -/
def BinTable.probes (t : BinTable) : Prop :=
  (∀ i r d, t.get i = .live r d → ∃ k, k < 24 ∧ i = probeSlot (home r.binId) k ∧
    ∀ j, j < k → t.get (probeSlot (home r.binId) j) ≠ .empty) ∧
  (∀ i j r r' d d', t.get i = .live r d → t.get j = .live r' d' → r.binId = r'.binId → i = j)

theorem probeLaw_iff (s : State) : ProbeLaw s ↔ s.table.probes := Iff.rfl

/-- `u` has no LIVE record but at the slots of `t` with that bin ID, and no EMPTY slot but where `t` has one. -/
def BinTable.fewer (t u : BinTable) : Prop :=
  (∀ i r d, u.get i = .live r d → ∃ r' d', t.get i = .live r' d' ∧ r'.binId = r.binId) ∧
  ∀ i, t.get i ≠ .empty → u.get i ≠ .empty

theorem BinTable.probes_of_fewer {t u : BinTable} (h : t.fewer u) (ht : t.probes) : u.probes := by
  obtain ⟨records, empties⟩ := h
  obtain ⟨windows, unique⟩ := ht
  constructor
  · intro i r d live
    obtain ⟨r', d', live', binId⟩ := records i r d live
    obtain ⟨k, hk, slot, before⟩ := windows i r' d' live'
    rw [binId] at slot before
    exact ⟨k, hk, slot, fun j hj => empties _ (before j hj)⟩
  · intro i j r r' d d' live live' same
    obtain ⟨a, e, liveA, binA⟩ := records i r d live
    obtain ⟨b, f, liveB, binB⟩ := records j r' d' live'
    exact unique i j a b e f liveA liveB (binA.trans (same.trans binB.symm))

theorem BinTable.fewer_refl (t : BinTable) : t.fewer t := ⟨fun _ r d h => ⟨r, d, h, rfl⟩, fun _ h => h⟩

theorem BinTable.fewer_trans {t u v : BinTable} (h : t.fewer u) (h' : u.fewer v) : t.fewer v := by
  refine ⟨fun i r d live => ?_, fun i hi => h'.2 i (h.2 i hi)⟩
  obtain ⟨r', d', live', binId'⟩ := h'.1 i r d live
  obtain ⟨r'', d'', live'', binId''⟩ := h.1 i r' d' live'
  exact ⟨r'', d'', live'', binId''.trans binId'⟩

theorem BinTable.get_put_of_wf (t : BinTable) (i j : Nat) {v : Slot} (h : t.wf) :
    (t.put i v).get j = if j = i then v else t.get j := by
  split
  · rename_i same; subst same; exact BinTable.get_put_same t _ v h
  · rename_i other; exact BinTable.get_put_of_ne t v other

theorem BinTable.fewer_put {t : BinTable} {i : Nat} {v : Slot} {r : BinRecord} {d : Word16} (ht : t.wf)
    (live : t.get i = .live r d) (empty : v ≠ .empty) (record : ∀ r' d', v = .live r' d' → r'.binId = r.binId) :
    t.fewer (t.put i v) := by
  constructor
  · intro j r' d' live'
    rw [t.get_put_of_wf i j ht] at live'
    split at live'
    · rename_i same
      exact ⟨r, d, same ▸ live, (record r' d' live').symm⟩
    · exact ⟨r', d', live', rfl⟩
  · intro j hj
    rw [t.get_put_of_wf i j ht]
    split
    · exact empty
    · exact hj

theorem BinTable.fewer_fail (l : List (Nat × Word16)) {t : BinTable} (ht : t.wf) : t.fewer (t.fail l) := by
  induction l generalizing t with
  | nil => exact t.fewer_refl
  | cons p l ih =>
    obtain ⟨i, d⟩ := p
    unfold BinTable.fail
    split
    · rename_i r old live
      exact BinTable.fewer_trans (BinTable.fewer_put ht live (by simp) (by rintro _ _ ⟨⟩; rfl))
        (ih (t.put_wf_of_get i _ ht (by simp [live])))
    · exact ih ht

theorem BinTable.get_restart (t : BinTable) (i : Nat) : t.restart.get i = (t.get i).restart := by
  induction t with
  | nil => rfl
  | cons p t ih =>
    obtain ⟨k, v⟩ := p
    unfold BinTable.restart at ih ⊢
    simp only [List.map_cons, BinTable.get]
    split
    · rfl
    · exact ih

theorem BinTable.fewer_restart (t : BinTable) : t.fewer t.restart := by
  constructor
  · intro i r d live
    rw [BinTable.get_restart] at live
    obtain ⟨x, e, p, slot, rfl, -⟩ := Slot.restart_live live
    exact ⟨x, e, slot, rfl⟩
  · intro i hi
    rw [BinTable.get_restart]
    intro empty
    have := Slot.restart_isEmpty (t.get i)
    rw [empty] at this
    exact hi (Slot.eq_empty this.symm)

theorem BinTable.fewer_claimed {t u : BinTable} (h : t.claimed u) (ht : t.wf) : t.fewer u := by
  rcases h with rfl | ⟨i, r, d, live, rfl | rfl⟩
  · exact BinTable.fewer_refl _
  · exact BinTable.fewer_put ht live (by simp) (by simp)
  · exact BinTable.fewer_put ht live (by simp) (by rintro _ _ ⟨⟩; rfl)

/-- A claim on other bins made within a claim on slot `i`: the two records of slot `i` hide what becomes of it. -/
theorem BinTable.fewer_written {t u : BinTable} {i : Nat} {r r' : BinRecord} (h : t.fewer u) (same : r'.binId = r.binId) :
    (t.put i (.live r 0)).fewer (u.put i (.live r' 0)) := by
  constructor
  · intro j x d live
    by_cases at_i : j = i
    · subst at_i
      rw [BinTable.get_put_live] at live
      obtain ⟨rfl, -⟩ := Slot.live.inj live
      exact ⟨r, 0, BinTable.get_put_live .., same.symm⟩
    · rw [BinTable.get_put_of_ne _ _ at_i] at live ⊢
      exact h.1 j x d live
  · intro j hj
    by_cases at_i : j = i
    · subst at_i
      simp [BinTable.get_put_live]
    · rw [BinTable.get_put_of_ne _ _ at_i] at hj ⊢
      exact h.2 j hj

theorem probeSlot_succ (h j : Nat) : (probeSlot h j + 1) % 8192 = probeSlot h (j + 1) := by
  simp only [probeSlot, Config.slotCount]
  omega

/-- A TOMBSTONE before an EMPTY slot lies in no probe chain (R166). -/
theorem BinTable.probes_reclaim {t : BinTable} {i : Nat} (ht : t.wf) (h : t.probes)
    (next : t.get ((i + 1) % 8192) = .empty) : (t.put i .empty).probes := by
  have get : ∀ j, (t.put i .empty).get j = if j = i then .empty else t.get j := fun j => t.get_put_of_wf i j ht
  have record : ∀ {j r d}, (t.put i .empty).get j = .live r d → t.get j = .live r d := by
    intro j r d live
    rw [get] at live
    split at live
    · cases live
    · exact live
  constructor
  · intro j r d live
    obtain ⟨k, hk, slot, before⟩ := h.1 j r d (record live)
    refine ⟨k, hk, slot, fun n hn => ?_⟩
    rw [get]
    split
    · rename_i at_i
      rw [← at_i, probeSlot_succ] at next
      rcases Nat.lt_or_eq_of_le hn with inside | last
      · exact absurd next (before (n + 1) inside)
      · rw [show n + 1 = k from last, ← slot, record live] at next
        cases next
    · exact before n hn
  · intro j j' r r' d d' live live' same
    exact h.2 j j' r r' d d' (record live) (record live') same

/-- An insertion (R28). -/
theorem BinTable.probes_insert {t : BinTable} {i : Nat} {r : BinRecord} (h : t.probes)
    (absent : lookup t r.binId = .notFound) (usable : usableSlot t r.binId = some i) :
    (t.put i (.live r 0)).probes := by
  have new : ∀ {j x d}, t.get j = .live x d → x.binId ≠ r.binId := by
    intro j x d live same
    obtain ⟨k, hk, slot, before⟩ := h.1 j x d live
    rw [same] at slot before
    exact lookup_notFound absent hk before (slot ▸ live) same
  have filled : ∀ j, t.get j ≠ .empty → (t.put i (.live r 0)).get j ≠ .empty := by
    intro j hj
    by_cases at_i : j = i
    · subst at_i; simp [BinTable.get_put_live]
    · rwa [BinTable.get_put_of_ne _ _ at_i]
  have cases : ∀ {j x d}, (t.put i (.live r 0)).get j = .live x d → j = i ∧ x = r ∨ j ≠ i ∧ t.get j = .live x d := by
    intro j x d live
    by_cases at_i : j = i
    · subst at_i
      rw [BinTable.get_put_live] at live
      exact Or.inl ⟨rfl, (Slot.live.inj live).1.symm⟩
    · rw [BinTable.get_put_of_ne _ _ at_i] at live
      exact Or.inr ⟨at_i, live⟩
  constructor
  · intro j x d live
    rcases cases live with ⟨rfl, rfl⟩ | ⟨-, live⟩
    · obtain ⟨k, hk, slot, before⟩ := usableSlot_at usable
      exact ⟨k, hk, slot, fun n hn => filled _ (before n hn)⟩
    · obtain ⟨k, hk, slot, before⟩ := h.1 j x d live
      exact ⟨k, hk, slot, fun n hn => filled _ (before n hn)⟩
  · intro j j' x x' d d' live live' same
    rcases cases live with ⟨rfl, rfl⟩ | ⟨-, live⟩ <;> rcases cases live' with ⟨rfl, rfl⟩ | ⟨-, live'⟩
    · rfl
    · exact absurd same.symm (new (by assumption))
    · exact absurd same (new (by assumption))
    · exact h.2 j j' x x' d d' live live' same

theorem probes_tableLaw : TableLaw BinTable.wf (fun _ => True) fun t => t.wf ∧ t.probes where
  records := anyRecord
  onEmpty := ⟨wf_tableLaw.onEmpty, by simp [BinTable.probes, BinTable.get]⟩
  weaken h := h.1
  ofRecord _ _ := trivial
  onFail l h := ⟨wf_tableLaw.onFail l h.1, BinTable.probes_of_fewer (BinTable.fewer_fail l h.1) h.2⟩
  onDamage holds h := by
    obtain ⟨r, d, live⟩ := holds
    exact ⟨wf_tableLaw.onDamage ⟨r, d, live⟩ h.1,
      BinTable.probes_of_fewer (BinTable.fewer_put h.1 live (by simp) (by simp)) h.2⟩
  onDelete holds h := by
    obtain ⟨r, d, live⟩ := holds
    exact ⟨wf_tableLaw.onDelete ⟨r, d, live⟩ h.1,
      BinTable.probes_of_fewer (BinTable.fewer_put h.1 live (by simp) (by simp)) h.2⟩
  onReclaim tombstone next h :=
    ⟨wf_tableLaw.onReclaim tombstone next h.1, BinTable.probes_reclaim h.1 h.2 next⟩
  onRestart h := ⟨BinTable.restart_wf h.1, BinTable.probes_of_fewer (BinTable.fewer_restart _) h.2⟩
  onInsert absent usable hQ h :=
    ⟨wf_tableLaw.onInsert absent usable hQ h.1, BinTable.probes_insert h.2 absent usable⟩
  onRewrite live binId hQ h :=
    ⟨wf_tableLaw.onRewrite live binId hQ h.1,
      BinTable.probes_of_fewer (BinTable.fewer_put h.1 live (by simp) (by rintro _ _ ⟨⟩; exact binId)) h.2⟩
  onClaim claimed binId hQ ht h :=
    ⟨wf_tableLaw.onClaim claimed binId hQ ht h.1,
      BinTable.probes_of_fewer (BinTable.fewer_written (BinTable.fewer_claimed claimed ht) binId) h.2⟩

/-- Settles O54: the laws of the probe windows, with the canonical form of the table. -/
theorem probeChainsKept : Obligations.ProbeChainsKept :=
  probes_tableLaw.sheetLaw.kept

end Sys2Proof.Machine
end

section
/-! PROOFS. Laws of the rounds' sides, the pool and the ports that do not look at the Bin Table: what such a law must
stand for every command to keep it, in terms of one written round and one written port. -/

namespace Sys2Proof.Machine

/-! ## Sides that are opened (R142) -/

/-- The state of a side that a port opens. -/
def opensAs (l : List Entry) : OtherState := if l = [] then .spent else .opened

/-- The port that opens a side of round `q`. -/
def openedPort (q : Fin 64) (l : List Entry) : Port := ⟨if l = [] then .exhausted q else .reading q, 0, 0, false⟩

/-- `t` has the rounds, the pool and the ports of `s`. -/
def sameSides (s t : State) : Prop := t.rounds = s.rounds ∧ t.free = s.free ∧ t.ports = s.ports

theorem openSide_sides (s : State) (p : Fin 4) (q : Fin 64) :
    sameSides ((s.setRound q { s.round q with otherState := opensAs (s.round q).other }).setPort p
      (openedPort q (s.round q).other)) (openSide s p q) := by
  by_cases empty : (s.round q).other = []
  · simp [openSide_empty p empty, empty, sameSides, opensAs, openedPort]
  · simp [openSide_entries p empty, empty, sameSides, opensAs, openedPort]

theorem Vec.put_put {α : Type} {n : Nat} (v : Vector α n) (i : Fin n) (x y : α) :
    Vec.put (Vec.put v i x) i y = Vec.put v i y := by simp [Vec.put]

theorem sealRound_unbound_sides {s : State} {q : Fin 64} (unbound : (s.round q).bound = none) :
    sameSides (s.setRound q ((s.round q).sealedAt s.time.epoch)) (sealRound s q).1 := by
  simp [sealRound_unbound unbound, sameSides]

theorem sealRound_bound_sides {s : State} {q : Fin 64} {p : Fin 4} (bound : (s.round q).bound = some p) :
    sameSides ((s.setRound q { (s.round q).sealedAt s.time.epoch with otherState := opensAs (s.round q).fill }).setPort p
      (openedPort q (s.round q).fill)) (sealRound s q).1 := by
  by_cases empty : (s.round q).fill = []
  · simp [sealRound_spends bound empty, empty, sameSides, opensAs, openedPort]
  · simp [sealRound_opens bound empty, empty, sameSides, opensAs, openedPort]

theorem cutoffHeld_sides {s : State} (q : Fin 64) :
    ∃ m, sameSides (s.setRound q { s.round q with held := true, missed := m }) (cutoffHeld s q).1 := by
  cases held : (s.round q).held with
  | true =>
    refine ⟨satInc16 (s.round q).missed, ?_⟩
    simp [cutoffHeld, sameSides, held]
  | false =>
    refine ⟨(s.round q).missed, ?_⟩
    simp [cutoffHeld, sameSides, held]

theorem returnSide_sides (s : State) (p : Fin 4) (q : Fin 64) :
    sameSides (((s.setRound q { s.round q with
        otherState := .sealed, other := (s.round q).other.filter fun e => !e.marked, bound := none }).setFree
      (s.free + (s.round q).other.countP Entry.marked)).setPort p ⟨.unbound, 0, 0, false⟩) (returnSide s p q).1 := by
  simp [returnSide, looseEnds, sameSides, Vec.put_put]

theorem bindPort_opens_sides {s : State} {p : Fin 4} {q : Fin 64} (isSealed : (s.round q).otherState = .sealed) :
    sameSides ((s.setRound q { s.round q with bound := some p, otherState := opensAs (s.round q).other }).setPort p
      (openedPort q (s.round q).other)) (bindPort s p q) := by
  have opened := openSide_sides (s.setRound q { s.round q with bound := some p }) p q
  simpa [bindPort, isSealed, sameSides, setRound_setRound, Vec.put_put] using opened

theorem bindPort_waits_sides {s : State} {p : Fin 4} {q : Fin 64} (notSealed : (s.round q).otherState ≠ .sealed) :
    sameSides ((s.setRound q { s.round q with bound := some p }).setPort p ⟨.waiting q, 0, 0, false⟩)
      (bindPort s p q) := by
  simp [bindPort, notSealed, sameSides]

theorem sameSides_symm {s t : State} (h : sameSides s t) : sameSides t s := ⟨h.1.symm, h.2.1.symm, h.2.2.symm⟩

theorem sameSides_trans {s t u : State} (h : sameSides s t) (h' : sameSides t u) : sameSides s u :=
  ⟨h'.1.trans h.1, h'.2.1.trans h.2.1, h'.2.2.trans h.2.2⟩

/-- What Serve and Withdraw do, with the unmarked entry they find: it leaves a side that is not being read, or is marked
at its position on one that is (R113, R114). -/
theorem detach_splits (s : State) (i : Nat) (m : Mark) :
    (locate s.rounds i = none ∧ detach s i m = s) ∨
    ∃ q before e after, e.unmarkedAt i = true ∧
      (((s.round q).fill = before ++ e :: after ∧
        detach s i m = (s.setRound q { s.round q with fill := before ++ after }).setFree (s.free + 1)) ∨
      ((s.round q).other = before ++ e :: after ∧ (s.round q).otherState.removes = true ∧
        detach s i m = (s.setRound q { s.round q with other := before ++ after }).setFree (s.free + 1)) ∨
      ((s.round q).other = before ++ e :: after ∧ (s.round q).otherState.removes = false ∧
        detach s i m = s.setRound q { s.round q with other := before ++ { e with mark := m } :: after })) := by
  rcases detach_cases s i m with none | ⟨q, found, h⟩ | ⟨q, found, removes, h⟩ | ⟨q, found, removes, h⟩
  · exact Or.inl none
  · obtain ⟨before, e, after, side, unmarked, -, dropped, -⟩ := unmarkedAt_split (whereIs_fill (locate_some found))
    exact Or.inr ⟨q, before, e, after, unmarked, Or.inl ⟨side, by rw [h, ← dropped]; rfl⟩⟩
  · obtain ⟨before, e, after, side, unmarked, -, dropped, -⟩ := unmarkedAt_split (whereIs_other (locate_some found))
    exact Or.inr ⟨q, before, e, after, unmarked, Or.inr (Or.inl ⟨side, removes, by rw [h, ← dropped]; rfl⟩)⟩
  · obtain ⟨before, e, after, side, unmarked, -, -, marked⟩ := unmarkedAt_split (whereIs_other (locate_some found))
    exact Or.inr ⟨q, before, e, after, unmarked, Or.inr (Or.inr ⟨side, removes, by rw [h, ← marked m]; rfl⟩)⟩

/-! ## A law of the sides -/

/-- `e'` is an upgrade of `e` as far as the sheets' laws go: the same bin and slot, not marked, not carried (R109). -/
def upgradeOf (e e' : Entry) : Prop :=
  e'.mark = .none ∧ e'.slot = e.slot ∧ e'.binId = e.binId ∧ e'.carried = false

/-- A law of the rounds, the pool and the ports. While round `q` is released it is `R q l`: the entries `l` of the
released side are still to be carried over. -/
structure SideLaw (P : State → Prop) (R : Fin 64 → List Entry → State → Prop) : Prop where
  congr : ∀ {s t : State}, sameSides s t → P s → P t
  onReset : P State.reset
  onSealUnbound : ∀ {s : State} {q} e, (s.round q).otherState = .free → (s.round q).bound = none → P s →
    P (s.setRound q ((s.round q).sealedAt e))
  onSealBound : ∀ {s : State} {q p} e, (s.round q).otherState = .free → (s.round q).bound = some p → P s →
    P ((s.setRound q { (s.round q).sealedAt e with otherState := opensAs (s.round q).fill }).setPort p
      (openedPort q (s.round q).fill))
  onHeld : ∀ {s : State} {q} m, (s.round q).otherState ≠ .free → P s →
    P (s.setRound q { s.round q with held := true, missed := m })
  onReturn : ∀ {s : State} {p q}, (s.port p).state.reads = some q → P s →
    P (((s.setRound q { s.round q with
        otherState := .sealed, other := (s.round q).other.filter fun e => !e.marked, bound := none }).setFree
      (s.free + (s.round q).other.countP Entry.marked)).setPort p ⟨.unbound, 0, 0, false⟩)
  onLoose : ∀ {s : State} {p q}, (s.port p).state = .waiting q → P s →
    P ((s.setRound q { s.round q with bound := none }).setPort p ⟨.unbound, 0, 0, false⟩)
  onBindWaits : ∀ {s : State} {p q}, (s.port p).state = .unbound → (s.round q).bound = none →
    (s.round q).otherState ≠ .sealed → P s →
    P ((s.setRound q { s.round q with bound := some p }).setPort p ⟨.waiting q, 0, 0, false⟩)
  onBindOpens : ∀ {s : State} {p q}, (s.port p).state = .unbound → (s.round q).bound = none →
    (s.round q).otherState = .sealed → P s →
    P ((s.setRound q { s.round q with bound := some p, otherState := opensAs (s.round q).other }).setPort p
      (openedPort q (s.round q).other))
  onRewindEmpty : ∀ {s : State} {p q}, (s.port p).state.reads = some q → (s.round q).other = [] → P s →
    P (s.setPort p ⟨(s.port p).state, 0, 0, false⟩)
  onRewind : ∀ {s : State} {p q}, (s.port p).state.reads = some q → (s.round q).other ≠ [] → P s →
    P ((s.setRound q { s.round q with otherState := .opened }).setPort p ⟨.reading q, 0, 0, false⟩)
  onConfigure : ∀ {s : State} {q} {o : RoundPut}, o.inRange = true → o.cap ≤ 255 → (s.round q).fill.length ≤ o.cap →
    (s.round q).other.length ≤ o.cap → P s → P (s.setRound q ((s.round q).configure o))
  onCursor : ∀ {s : State} {p q c}, (s.port p).state = .reading q → c < (s.round q).other.length → P s →
    P (s.setPort p ⟨.reading q, c, 0, false⟩)
  onSpend : ∀ {s : State} {p q c}, (s.port p).state = .reading q → (s.round q).other.length ≤ c →
    c ≤ max (s.port p).cursor (s.round q).other.length → P s →
    P ((s.setRound q { s.round q with otherState := .spent }).setPort p ⟨.exhausted q, c, 0, false⟩)
  onUsed : ∀ {s : State} {p q}, (s.port p).state = .exhausted q → P s → P (s.setPort p (s.port p).used)
  onAge : ∀ {s : State} n, P s → P (s.setPorts (Vec.map (Port.age n) s.ports))
  onDropFill : ∀ {s : State} {q i before e after}, (s.round q).fill = before ++ e :: after → e.unmarkedAt i = true →
    P s → P ((s.setRound q { s.round q with fill := before ++ after }).setFree (s.free + 1))
  onDropOther : ∀ {s : State} {q i before e after}, (s.round q).other = before ++ e :: after →
    e.unmarkedAt i = true → (s.round q).otherState.removes = true → P s →
    P ((s.setRound q { s.round q with other := before ++ after }).setFree (s.free + 1))
  onMark : ∀ {s : State} {q i before e after} m, (s.round q).other = before ++ e :: after →
    e.unmarkedAt i = true → (s.round q).otherState.removes = false → P s →
    P (s.setRound q { s.round q with other := before ++ { e with mark := m } :: after })
  onUpgradeFill : ∀ {s : State} {q i before e e' after}, (s.round q).fill = before ++ e :: after →
    e.unmarkedAt i = true → upgradeOf e e' → P s →
    P (s.setRound q { s.round q with fill := insertPlaced e' (before ++ after) })
  onUpgradeOther : ∀ {s : State} {q i before e e' after}, (s.round q).other = before ++ e :: after →
    e.unmarkedAt i = true → (s.round q).otherState.removes = true → upgradeOf e e' → P s →
    P (s.setRound q { s.round q with other := insertPlaced e' (before ++ after) })
  onAdd : ∀ {s : State} {q e}, locate s.rounds e.slot = none → e.mark = .none → e.carried = false →
    (s.round q).fill.length < (s.round q).cap → 0 < s.free → P s →
    P ((s.setRound q { s.round q with fill := insertPlaced e (s.round q).fill }).setFree (s.free - 1))
  onDisplace : ∀ {s : State} {q e front last} d, locate s.rounds e.slot = none → e.mark = .none → e.carried = false →
    (s.round q).fill = front ++ [last] → P s →
    P (s.setRound q { s.round q with fill := insertPlaced e front, displaced := d })
  onRestart : ∀ {s : State}, P s → P (((s.setRounds (Vec.map Round.restart s.rounds)).setFree 4096).setPorts
    (Vector.replicate 4 .powerOn))
  congrR : ∀ {s t : State} {q l}, sameSides s t → R q l s → R q l t
  freeR : ∀ {s : State} {q l}, R q l s → (s.round q).otherState = .free
  onHandBack : ∀ {s : State} {p q}, (s.port p).state.reads = some q → P s →
    R q ((s.round q).other.filter fun e => !e.marked)
      (((s.setRound q { s.round q with otherState := .free, other := [] }).setFree
        (s.free + (s.round q).other.countP Entry.marked)).setPort p ⟨.waiting q, 0, 0, false⟩)
  onCarry : ∀ {s : State} {q e l}, (s.round q).fill.length < (s.round q).cap → R q (e :: l) s →
    R q l (s.setRound q { s.round q with fill := insertCarried { e with carried := true } (s.round q).fill })
  onCarryDisplaces : ∀ {s : State} {q e l front last} d, (s.round q).fill = front ++ [last] → R q (e :: l) s →
    R q l ((s.setRound q { s.round q with
      fill := insertCarried { e with carried := true } front, displaced := d }).setFree (s.free + 1))
  onCarryDrops : ∀ {s : State} {q e l}, R q (e :: l) s → R q l (s.setFree (s.free + 1))
  onDropFillR : ∀ {s : State} {u l q i before e after}, (s.round q).fill = before ++ e :: after →
    e.unmarkedAt i = true → R u l s →
    R u l ((s.setRound q { s.round q with fill := before ++ after }).setFree (s.free + 1))
  onDropOtherR : ∀ {s : State} {u l q i before e after}, (s.round q).other = before ++ e :: after →
    e.unmarkedAt i = true → (s.round q).otherState.removes = true → R u l s →
    R u l ((s.setRound q { s.round q with other := before ++ after }).setFree (s.free + 1))
  onMarkR : ∀ {s : State} {u l q i before e after} m, (s.round q).other = before ++ e :: after →
    e.unmarkedAt i = true → (s.round q).otherState.removes = false → R u l s →
    R u l (s.setRound q { s.round q with other := before ++ { e with mark := m } :: after })
  onComplete : ∀ {s : State} {q}, R q [] s → P (s.setRound q { s.round q with held := false })

namespace SideLaw

variable {P : State → Prop} {R : Fin 64 → List Entry → State → Prop} (L : SideLaw P R) {s : State}
include L

theorem detach_keeps (i : Nat) (m : Mark) (hs : P s) : P (detach s i m) := by
  rcases detach_splits s i m with ⟨-, h⟩ | ⟨q, before, e, after, unmarked, ⟨side, h⟩ | ⟨side, removes, h⟩ |
    ⟨side, removes, h⟩⟩ <;> rw [h]
  · exact hs
  · exact L.onDropFill side unmarked hs
  · exact L.onDropOther side unmarked removes hs
  · exact L.onMark m side unmarked removes hs

theorem detach_keepsR {u : Fin 64} {l : List Entry} (i : Nat) (m : Mark) (hs : R u l s) : R u l (detach s i m) := by
  rcases detach_splits s i m with ⟨-, h⟩ | ⟨q, before, e, after, unmarked, ⟨side, h⟩ | ⟨side, removes, h⟩ |
    ⟨side, removes, h⟩⟩ <;> rw [h]
  · exact hs
  · exact L.onDropFillR side unmarked hs
  · exact L.onDropOtherR side unmarked removes hs
  · exact L.onMarkR m side unmarked removes hs

theorem storeError_keeps (i : Nat) (hs : P s) : P (storeError s i) :=
  L.detach_keeps i .withdrawn (L.congr (by simp [sameSides]) hs)

theorem claimUnplaced_keeps (i : Nat) (hs : P s) : P (claimUnplaced s i).1 := by
  rcases claimUnplaced_cases s i with ⟨r, -, h⟩ | ⟨r, d, -, -, h⟩ | ⟨-, h⟩ <;> rw [h]
  · exact L.congr (by simp [sameSides, State.writeRecord]) hs
  · exact L.storeError_keeps i hs
  · exact hs

theorem claimUnplaced_keepsR {q : Fin 64} {l : List Entry} (i : Nat) (hs : R q l s) : R q l (claimUnplaced s i).1 := by
  rcases claimUnplaced_cases s i with ⟨r, -, h⟩ | ⟨r, d, -, -, h⟩ | ⟨-, h⟩ <;> rw [h]
  · exact L.congrR (by simp [sameSides, State.writeRecord]) hs
  · exact L.detach_keepsR i .withdrawn (L.congrR (by simp [sameSides]) hs)
  · exact hs

theorem place_keeps (i : Nat) (r : BinRecord) (c : EntryClass) (hs : P s) : P (place s i r c).1 := by
  have upgraded : ∀ {e : Entry}, e.unmarkedAt i = true → upgradeOf e (e.upgrade s.time.epoch r c) := by
    intro e unmarked
    exact ⟨((unmarkedAt_iff i e).mp unmarked).1, rfl, rfl, rfl⟩
  rcases place_cases s i r c with ⟨h, -⟩ | ⟨u, w, h, -⟩ | ⟨u, l, h, -, up⟩ | ⟨u, l, h, -, removes, up⟩ | ⟨h, -⟩ |
    ⟨q, -, absent, ⟨room, pool, h⟩ | ⟨front, last, -, side, -, h⟩⟩ <;> rw [h]
  case inl | inr.inl | inr.inr.inr.inr.inl => exact hs
  · obtain ⟨before, e, after, side, unmarked, -, rfl⟩ := upgradeSide_some up
    exact L.onUpgradeFill side unmarked (upgraded unmarked) hs
  · obtain ⟨before, e, after, side, unmarked, -, rfl⟩ := upgradeSide_some up
    exact L.onUpgradeOther side unmarked removes (upgraded unmarked) hs
  · exact L.onAdd (e := newEntry s.time.epoch i r c) absent rfl rfl room pool hs
  · exact L.claimUnplaced_keeps _ (L.onDisplace (e := newEntry s.time.epoch i r c) _ absent rfl rfl side hs)

theorem cutoffFree_keeps {q : Fin 64} (free : (s.round q).otherState = .free) (hs : P s) : P (cutoffFree s q).1 := by
  unfold cutoffFree
  split
  · exact L.congr (by simp [sameSides]) hs
  · cases bound : (s.round q).bound with
    | none => exact L.congr (sealRound_unbound_sides bound) (L.onSealUnbound _ free bound hs)
    | some p => exact L.congr (sealRound_bound_sides bound) (L.onSealBound _ free bound hs)

theorem cutoff_keeps (q : Fin 64) (hs : P s) : P (cutoff s q).1 := by
  unfold cutoff
  split
  · rename_i free
    exact L.cutoffFree_keeps free hs
  · rename_i notFree
    obtain ⟨m, same⟩ := cutoffHeld_sides (s := s) q
    exact L.congr same (L.onHeld m notFree hs)

theorem carryOne_keeps {q : Fin 64} {e : Entry} {l : List Entry} (g : Figures) (hs : R q (e :: l) s) :
    R q l (carryOne q (s, g) e).1 := by
  have dropped : R q l (claimUnplaced (s.setFree (s.free + 1)) e.slot).1 :=
    L.claimUnplaced_keepsR _ (L.onCarryDrops hs)
  have raised : R q l (raiseT (claimUnplaced (s.setFree (s.free + 1)) e.slot).1 .placeFail (.bin e.binId)) :=
    L.congrR (by simp [sameSides]) dropped
  unfold carryOne
  dsimp only
  split
  · rename_i room
    exact L.onCarry room hs
  · split
    · rename_i last side
      split
      · exact L.claimUnplaced_keepsR _
          (L.onCarryDisplaces _ (List.dropLast_append_getLast? last side).symm hs)
      · split
        · exact raised
        · exact dropped
    · split
      · exact raised
      · exact dropped

theorem carryAll_keeps {q : Fin 64} (l : List Entry) (g : Figures) (hs : R q l s) :
    R q [] (l.foldl (carryOne q) (s, g)).1 := by
  induction l generalizing s g with
  | nil => exact hs
  | cons e l ih => exact ih _ (L.carryOne_keeps g hs)

theorem releaseSide_keeps {p : Fin 4} {q : Fin 64} (reads : (s.port p).state.reads = some q) (hs : P s) :
    P (releaseSide s p q).1 := by
  have back : R q [] (handBack s p q).1 := L.carryAll_keeps _ _ (L.onHandBack reads hs)
  have complete := L.onComplete back
  unfold releaseSide completeCutoff
  dsimp only
  split
  · exact L.cutoffFree_keeps (by simpa using L.freeR back) complete
  · rename_i notHeld
    have same : { (handBack s p q).1.round q with held := false } = (handBack s p q).1.round q := by
      simp only [Bool.not_eq_true] at notHeld
      rw [← notHeld]
    rwa [same, setRound_self] at complete

theorem moveCursor_keeps {p : Fin 4} {q : Fin 64} (n : Nat) (reading : (s.port p).state = .reading q) (hs : P s) :
    P (moveCursor s p q ((s.port p).cursor + (((s.round q).other.drop (s.port p).cursor).take n).length)) := by
  unfold moveCursor
  split
  · rename_i beyond
    refine L.congr (by simp [sameSides]) (L.onSpend reading beyond ?_ hs)
    simp only [List.length_take, List.length_drop]
    omega
  · rename_i inside
    exact L.onCursor reading (by omega) hs

theorem rewindPort_keeps {p : Fin 4} {q : Fin 64} (reads : (s.port p).state.reads = some q) (hs : P s) :
    P (rewindPort s p q) := by
  unfold rewindPort
  split
  · rename_i empty
    exact L.onRewindEmpty reads empty hs
  · rename_i entries
    exact L.onRewind reads entries hs

theorem bindPort_keeps {p : Fin 4} {q : Fin 64} (unbound : (s.port p).state = .unbound)
    (free : (s.round q).bound = none) (hs : P s) : P (bindPort s p q) := by
  by_cases isSealed : (s.round q).otherState = .sealed
  · exact L.congr (bindPort_opens_sides isSealed) (L.onBindOpens unbound free isSealed hs)
  · exact L.congr (bindPort_waits_sides isSealed) (L.onBindWaits unbound free isSealed hs)

/-- The table does not matter to a law of the sides. -/
theorem setTable_iff (t : BinTable) : P (s.setTable t) ↔ P s :=
  ⟨L.congr (by simp [sameSides]), L.congr (by simp [sameSides])⟩

/-- A law of the sides is a law of the sheets. -/
theorem sheetLaw : SheetLaw (fun _ => True) (fun _ => True) P where
  records := anyRecord
  congr same := L.congr same.2
  onReset := L.onReset
  ofTable _ := trivial
  ofRecord _ _ := trivial
  onCutoff q h := (L.setTable_iff _).mpr (L.cutoff_keeps q ((L.setTable_iff _).mp h))
  onReturnSide reads h :=
    (L.setTable_iff _).mpr (L.congr (returnSide_sides _ _ _) (L.onReturn reads ((L.setTable_iff _).mp h)))
  onLooseEnds waiting h := (L.setTable_iff _).mpr (L.onLoose waiting ((L.setTable_iff _).mp h))
  onBindPort unbound free h := (L.setTable_iff _).mpr (L.bindPort_keeps unbound free ((L.setTable_iff _).mp h))
  onRewindPort reads h := (L.setTable_iff _).mpr (L.rewindPort_keeps reads ((L.setTable_iff _).mp h))
  onConfigure inRange cap fill other h :=
    (L.setTable_iff _).mpr (L.onConfigure inRange cap fill other ((L.setTable_iff _).mp h))
  onDraw n reading h := L.moveCursor_keeps n reading h
  onUsed := L.onUsed
  onRelease reads h := L.releaseSide_keeps reads h
  onAge := L.onAge
  onFail _ h := (L.setTable_iff _).mpr h
  onError _ h := L.storeError_keeps _ h
  onDrop {_ i} _ h := L.congr (by simp [sameSides, dropSlot]) (L.detach_keeps i .withdrawn h)
  onReclaim _ _ h := (L.setTable_iff _).mpr h
  onRestart h := L.congr (by simp [sameSides, restartTable, Config.poolSize]) (L.onRestart h)
  onInsert _ _ _ _ h := (L.setTable_iff _).mpr h
  onRewrite _ _ _ h := (L.setTable_iff _).mpr h
  onWithdraw _ _ _ _ _ h := (L.setTable_iff _).mpr (L.detach_keeps _ _ ((L.setTable_iff _).mp h))
  onPlace c _ _ h := (L.setTable_iff _).mpr (L.place_keeps _ _ c ((L.setTable_iff _).mp h))

end SideLaw

end Sys2Proof.Machine
end

section
/-! PROOFS. Every step keeps every round lawful and the pool accounted for (O55), and at most one unmarked entry for a
slot (O56). -/

namespace Sys2Proof.Machine

/-! ## Sides in order, with an entry taken out, marked, or left alone -/

theorem inOrder_remove {before after : List Entry} {e : Entry} (h : inOrder (before ++ e :: after)) :
    inOrder (before ++ after) :=
  List.Pairwise.sublist ((List.sublist_cons_self e after).append_left before) h

theorem inOrder_mark {before after : List Entry} {e : Entry} (m : Mark) (h : inOrder (before ++ e :: after)) :
    inOrder (before ++ { e with mark := m } :: after) := by
  simpa [inOrder, List.pairwise_append, mayPrecede] using h

theorem noneMarked_of_subset {l l' : List Entry} (h : noneMarked l) (sub : ∀ e ∈ l', e ∈ l) : noneMarked l' :=
  fun e he => h e (sub e he)

theorem noneMarked_remove {before after : List Entry} {e : Entry} (h : noneMarked (before ++ e :: after)) :
    noneMarked (before ++ after) :=
  noneMarked_of_subset h (by simp only [List.mem_append, List.mem_cons]; tauto)

theorem noneMarked_insertPlaced {l : List Entry} {e : Entry} (h : noneMarked l) (he : e.mark = .none) :
    noneMarked (insertPlaced e l) := by
  intro x hx
  rcases mem_insertPlaced.mp hx with rfl | hx
  · exact he
  · exact h x hx

theorem noneMarked_insertCarried {l : List Entry} {e : Entry} (h : noneMarked l) (he : e.mark = .none) :
    noneMarked (insertCarried e l) := by
  intro x hx
  rcases mem_insertCarried.mp hx with rfl | hx
  · exact he
  · exact h x hx

theorem noneMarked_unmarked (l : List Entry) : noneMarked (l.filter fun e => !e.marked) := by
  intro e he
  simpa [Entry.marked] using (List.mem_filter.mp he).2

theorem opensAs_reads (l : List Entry) : (opensAs l).removes = false ∧ opensAs l ≠ .free := by
  unfold opensAs
  split <;> simp [OtherState.removes]

/-! ## Lawful rounds -/

namespace Round

variable {x : Round} {l : List Entry}

theorem lawful_fill (h : x.lawful) (order : inOrder l) (marks : noneMarked l) (cap : l.length ≤ x.cap) (d : Word16) :
    { x with fill := l, displaced := d }.lawful := by
  obtain ⟨-, otherOrder, -, otherMarks, free, -, otherCap, settings⟩ := h
  exact ⟨order, otherOrder, marks, otherMarks, free, cap, otherCap, settings⟩

theorem lawful_other (h : x.lawful) (order : inOrder l) (marks : x.otherState.removes = true → noneMarked l)
    (free : x.otherState = .free → l = []) (cap : l.length ≤ x.cap) : { x with other := l }.lawful := by
  obtain ⟨fillOrder, -, fillMarks, -, freeHeld, fillCap, -, settings⟩ := h
  exact ⟨fillOrder, order, fillMarks, marks, fun isFree => ⟨free isFree, (freeHeld isFree).2⟩, fillCap, cap, settings⟩

/-- The side that is not FILL changes its state, the round its binding. -/
theorem lawful_state {y : OtherState} (h : x.lawful) (marks : y.removes = true → noneMarked x.other) (notFree : y ≠ .free)
    (p : Option (Fin 4)) : { x with otherState := y, bound := p }.lawful := by
  obtain ⟨fillOrder, otherOrder, fillMarks, -, -, fillCap, otherCap, settings⟩ := h
  exact ⟨fillOrder, otherOrder, fillMarks, marks, fun isFree => absurd isFree notFree, fillCap, otherCap, settings⟩

theorem lawful_sealedAt {y : OtherState} (h : x.lawful) (notFree : y ≠ .free) (e : Word32) :
    { x.sealedAt e with otherState := y }.lawful := by
  obtain ⟨fillOrder, -, fillMarks, -, -, fillCap, -, settings⟩ := h
  exact ⟨List.Pairwise.nil, fillOrder, by simp [noneMarked, Round.sealedAt], fun _ => fillMarks,
    fun isFree => absurd isFree notFree, Nat.zero_le _, fillCap, settings⟩

theorem lawful_configure {o : RoundPut} (h : x.lawful) (inRange : o.inRange = true) (cap : o.cap ≤ 255)
    (fill : x.fill.length ≤ o.cap) (other : x.other.length ≤ o.cap) : (x.configure o).lawful := by
  obtain ⟨fillOrder, otherOrder, fillMarks, otherMarks, free, -, -, -⟩ := h
  simp only [RoundPut.inRange, decide_eq_true_eq] at inRange
  obtain ⟨minute, postscaler, postscalerMax, phase, capMin⟩ := inRange
  refine ⟨fillOrder, otherOrder, fillMarks, otherMarks, fun isFree => ⟨(free isFree).1, ?_⟩, fill, other,
    ⟨minute, postscaler, postscalerMax, phase, capMin, cap⟩⟩
  simp [Round.configure, (free isFree).2]

theorem lawful_restart (h : x.lawful) : x.restart.lawful := by
  obtain ⟨-, -, -, -, -, -, -, settings⟩ := h
  exact ⟨List.Pairwise.nil, List.Pairwise.nil, by simp [noneMarked, Round.restart],
    by simp [noneMarked, Round.restart], fun _ => ⟨rfl, rfl⟩, Nat.zero_le _, Nat.zero_le _, settings⟩

/-- The round, its Held flag looked at only if `b`. -/
def heldIf (x : Round) : Bool → Round
  | true => x
  | false => { x with held := false }

theorem heldIf_fill {b : Bool} (h : (x.heldIf b).lawful) (order : inOrder l) (marks : noneMarked l)
    (cap : l.length ≤ x.cap) (d : Word16) : ({ x with fill := l, displaced := d }.heldIf b).lawful := by
  cases b with
  | true => exact lawful_fill h order marks cap d
  | false => exact lawful_fill (x := { x with held := false }) h order marks cap d

theorem heldIf_other {b : Bool} (h : (x.heldIf b).lawful) (order : inOrder l)
    (marks : x.otherState.removes = true → noneMarked l) (free : x.otherState = .free → l = [])
    (cap : l.length ≤ x.cap) : ({ x with other := l }.heldIf b).lawful := by
  cases b with
  | true => exact lawful_other h order marks free cap
  | false => exact lawful_other (x := { x with held := false }) h order marks free cap

theorem heldIf_sides {b : Bool} (h : (x.heldIf b).lawful) :
    inOrder x.fill ∧ inOrder x.other ∧ noneMarked x.fill ∧ (x.otherState.removes = true → noneMarked x.other) ∧
    (x.otherState = .free → x.other = []) ∧ x.fill.length ≤ x.cap ∧ x.other.length ≤ x.cap := by
  cases b <;>
  · obtain ⟨fillOrder, otherOrder, fillMarks, otherMarks, free, fillCap, otherCap, -⟩ := h
    exact ⟨fillOrder, otherOrder, fillMarks, otherMarks, fun isFree => (free isFree).1, fillCap, otherCap⟩

end Round

/-- Every round is lawful but for the Held flags of the rounds that `h` leaves out. -/
def lawfulBut (h : Fin 64 → Bool) (s : State) : Prop := ∀ u, ((s.round u).heldIf (h u)).lawful

theorem roundLaw_iff (s : State) : RoundLaw s ↔ lawfulBut (fun _ => true) s := Iff.rfl

section Sides

variable {s : State} {h : Fin 64 → Bool} {q : Fin 64} {before after l : List Entry} {e e' : Entry}

theorem lawfulBut_setRound {x : Round} (hs : lawfulBut h s) (hx : (x.heldIf (h q)).lawful) :
    lawfulBut h (s.setRound q x) := by
  intro u
  rw [round_setRound]
  split
  · rename_i same; exact same ▸ hx
  · exact hs u

theorem lawfulBut_dropFill (side : (s.round q).fill = before ++ e :: after) (hs : lawfulBut h s) :
    lawfulBut h (s.setRound q { s.round q with fill := before ++ after }) := by
  obtain ⟨order, -, marks, -, -, cap, -⟩ := Round.heldIf_sides (hs q)
  rw [side] at order marks cap
  refine lawfulBut_setRound hs (Round.heldIf_fill (hs q) (inOrder_remove order) (noneMarked_remove marks) ?_ _)
  simp only [List.length_append, List.length_cons] at cap ⊢
  omega

theorem lawfulBut_dropOther (side : (s.round q).other = before ++ e :: after) (hs : lawfulBut h s) :
    lawfulBut h (s.setRound q { s.round q with other := before ++ after }) := by
  obtain ⟨-, order, -, marks, free, -, cap⟩ := Round.heldIf_sides (hs q)
  rw [side] at order marks free cap
  refine lawfulBut_setRound hs (Round.heldIf_other (hs q) (inOrder_remove order)
    (fun removes => noneMarked_remove (marks removes)) (fun isFree => absurd (free isFree) (by simp)) ?_)
  simp only [List.length_append, List.length_cons] at cap ⊢
  omega

theorem lawfulBut_mark (m : Mark) (side : (s.round q).other = before ++ e :: after)
    (reads : (s.round q).otherState.removes = false) (hs : lawfulBut h s) :
    lawfulBut h (s.setRound q { s.round q with other := before ++ { e with mark := m } :: after }) := by
  obtain ⟨-, order, -, -, free, -, cap⟩ := Round.heldIf_sides (hs q)
  rw [side] at order free cap
  refine lawfulBut_setRound hs (Round.heldIf_other (hs q) (inOrder_mark m order)
    (fun removes => absurd removes (by simp [reads])) (fun isFree => absurd (free isFree) (by simp)) ?_)
  simpa using cap

/-- An entry on a full FILL side takes the place of the last one. -/
theorem lawfulBut_front {front : List Entry} {last : Entry} (side : (s.round q).fill = front ++ [last])
    (hs : lawfulBut h s) : inOrder front ∧ noneMarked front ∧ front.length + 1 ≤ (s.round q).cap := by
  obtain ⟨order, -, marks, -, -, cap, -⟩ := Round.heldIf_sides (hs q)
  rw [side] at order marks cap
  refine ⟨order.sublist (List.sublist_append_left front [last]), noneMarked_of_subset marks ?_, by simpa using cap⟩
  exact fun x hx => List.mem_append_left _ hx

theorem RoundLaw.setRound {s t : State} {q : Fin 64} {x : Round} (hs : RoundLaw s)
    (rounds : t.rounds = Vec.put s.rounds q x) (hx : x.lawful) : RoundLaw t := by
  have written : RoundLaw (s.setRound q x) := lawfulBut_setRound (h := fun _ => true) hs hx
  unfold RoundLaw State.round at written ⊢
  rwa [rounds]

end Sides

/-- While round `q` is released its Held flag stands, although its side is FREE. -/
def roundsReleasing (q : Fin 64) (l : List Entry) (s : State) : Prop :=
  lawfulBut (fun u => u != q) s ∧ (s.round q).otherState = .free ∧ noneMarked l

theorem roundsReleasing_keeps {s t : State} {u q : Fin 64} {l l' : List Entry} {x : Round}
    (rounds : t.rounds = Vec.put s.rounds q x) (state : x.otherState = (s.round q).otherState)
    (lawful : lawfulBut (fun v => v != u) (s.setRound q x)) (rest : noneMarked l') (hs : roundsReleasing u l s) :
    roundsReleasing u l' t := by
  have round : ∀ v, t.round v = (s.setRound q x).round v := by
    intro v
    unfold State.round
    rw [rounds]
    rfl
  refine ⟨fun v => round v ▸ lawful v, ?_, rest⟩
  rw [round, round_setRound]
  split
  · rename_i same; subst same; rw [state]; exact hs.2.1
  · exact hs.2.1

theorem rounds_sideLaw : SideLaw RoundLaw roundsReleasing where
  congr same h := by unfold RoundLaw State.round at h ⊢; rwa [same.1]
  onReset := by
    intro q
    simp [State.round, State.reset, Round.powerOn, Round.lawful, inOrder, noneMarked, Round.settingsLawful]
  onSealUnbound e _ _ h := h.setRound rfl (Round.lawful_sealedAt (h _) (by decide) e)
  onSealBound e _ _ h := h.setRound rfl (Round.lawful_sealedAt (h _) (opensAs_reads _).2 e)
  onHeld {s q} m notFree h := by
    refine h.setRound rfl ?_
    obtain ⟨fillOrder, otherOrder, fillMarks, otherMarks, -, fillCap, otherCap, settings⟩ := h q
    exact ⟨fillOrder, otherOrder, fillMarks, otherMarks, fun free => absurd free notFree, fillCap, otherCap, settings⟩
  onReturn {s p q} _ h := by
    refine h.setRound rfl ?_
    obtain ⟨fillOrder, otherOrder, fillMarks, -, -, fillCap, otherCap, settings⟩ := h q
    exact ⟨fillOrder, otherOrder.sublist List.filter_sublist, fillMarks, fun _ => noneMarked_unmarked _,
      fun free => absurd free (by simp), fillCap, (List.length_filter_le _ _).trans otherCap, settings⟩
  onLoose {s p q} _ h := h.setRound rfl (h q)
  onBindWaits {s p q} _ _ _ h := h.setRound rfl (h q)
  onBindOpens {s p q} _ _ _ h :=
    h.setRound rfl (Round.lawful_state (h q) (by simp [opensAs_reads]) (opensAs_reads _).2 (some p))
  onRewindEmpty _ _ h := h
  onRewind {s p q} _ _ h := h.setRound rfl (Round.lawful_state (h q) (by simp [OtherState.removes]) (by decide) _)
  onConfigure inRange cap fill other h := h.setRound rfl (Round.lawful_configure (h _) inRange cap fill other)
  onCursor _ _ h := h
  onSpend {s p q c} _ _ _ h :=
    h.setRound rfl (Round.lawful_state (h q) (by simp [OtherState.removes]) (by decide) _)
  onUsed _ h := h
  onAge _ h := h
  onDropFill side _ h := lawfulBut_dropFill (h := fun _ => true) side h
  onDropOther side _ _ h := lawfulBut_dropOther (h := fun _ => true) side h
  onMark m side _ reads h := lawfulBut_mark (h := fun _ => true) m side reads h
  onUpgradeFill {s q i before e e' after} side _ up h := by
    obtain ⟨mark, -, -, carried⟩ := up
    obtain ⟨order, -, marks, -, -, cap, -, -⟩ := h q
    rw [side] at order marks cap
    exact h.setRound rfl (Round.lawful_fill (h q) (insertPlaced_inOrder carried (inOrder_remove order))
      (noneMarked_insertPlaced (noneMarked_remove marks) mark) (by simp at cap ⊢; omega) _)
  onUpgradeOther {s q i before e e' after} side _ _ up h := by
    obtain ⟨mark, -, -, carried⟩ := up
    obtain ⟨-, order, -, marks, free, -, cap, -⟩ := h q
    rw [side] at order marks free cap
    exact h.setRound rfl (Round.lawful_other (h q) (insertPlaced_inOrder carried (inOrder_remove order))
      (fun removes => noneMarked_insertPlaced (noneMarked_remove (marks removes)) mark)
      (fun isFree => absurd (free isFree).1 (by simp)) (by simp at cap ⊢; omega))
  onAdd {s q e} _ mark carried room _ h := by
    obtain ⟨order, -, marks, -, -, -, -, -⟩ := h q
    exact h.setRound rfl (Round.lawful_fill (h q) (insertPlaced_inOrder carried order)
      (noneMarked_insertPlaced marks mark) (by simp; omega) _)
  onDisplace {s q e front last} d _ mark carried side h := by
    obtain ⟨order, marks, cap⟩ := lawfulBut_front (h := fun _ => true) side h
    exact h.setRound rfl (Round.lawful_fill (h q) (insertPlaced_inOrder carried order)
      (noneMarked_insertPlaced marks mark) (by simpa using cap) d)
  onRestart h u := by simpa [State.round] using Round.lawful_restart (h u)
  congrR same h := by unfold roundsReleasing lawfulBut State.round at h ⊢; rwa [same.1]
  freeR h := h.2.1
  onHandBack {s p q} _ h := by
    have lawful : lawfulBut (fun u => u != q) (s.setRound q { s.round q with otherState := .free, other := [] }) := by
      intro u
      rw [round_setRound]
      split
      · rename_i same
        subst same
        obtain ⟨fillOrder, -, fillMarks, -, -, fillCap, -, settings⟩ := h q
        simp only [bne_self_eq_false]
        exact ⟨fillOrder, List.Pairwise.nil, fillMarks, by simp [noneMarked, Round.heldIf], fun _ => ⟨rfl, rfl⟩, fillCap,
          Nat.zero_le _, settings⟩
      · rename_i other
        have differs : (u != q) = true := by simpa using Ne.symm other
        simp only [differs]
        exact h u
    exact ⟨lawful, by simp, noneMarked_unmarked _⟩
  onCarry {s q e l} room h := by
    obtain ⟨order, -, marks, -, -, -, -⟩ := Round.heldIf_sides (h.1 q)
    refine roundsReleasing_keeps (x := { s.round q with fill := _ }) rfl rfl ?_
      (noneMarked_of_subset h.2.2 fun x => List.mem_cons_of_mem e) h
    exact lawfulBut_setRound h.1 (Round.heldIf_fill (h.1 q) (insertCarried_inOrder rfl order)
      (noneMarked_insertCarried (e := { e with carried := true }) marks (h.2.2 e List.mem_cons_self)) (by simp; omega) _)
  onCarryDisplaces {s q e l front last} d side h := by
    obtain ⟨order, marks, cap⟩ := lawfulBut_front side h.1
    refine roundsReleasing_keeps (x := { s.round q with fill := _, displaced := d }) rfl rfl ?_
      (noneMarked_of_subset h.2.2 fun x => List.mem_cons_of_mem e) h
    exact lawfulBut_setRound h.1 (Round.heldIf_fill (h.1 q) (insertCarried_inOrder rfl order)
      (noneMarked_insertCarried (e := { e with carried := true }) marks (h.2.2 e List.mem_cons_self)) (by simpa using cap) d)
  onCarryDrops {s q e l} h := ⟨h.1, h.2.1, noneMarked_of_subset h.2.2 fun x => List.mem_cons_of_mem e⟩
  onDropFillR {s u l q i before e after} side _ h :=
    roundsReleasing_keeps (x := { s.round q with fill := before ++ after }) rfl rfl (lawfulBut_dropFill side h.1) h.2.2 h
  onDropOtherR {s u l q i before e after} side _ _ h :=
    roundsReleasing_keeps (x := { s.round q with other := before ++ after }) rfl rfl (lawfulBut_dropOther side h.1) h.2.2 h
  onMarkR {s u l q i before e after} m side _ reads h :=
    roundsReleasing_keeps (x := { s.round q with other := before ++ { e with mark := m } :: after }) rfl rfl
      (lawfulBut_mark m side reads h.1) h.2.2 h
  onComplete {s q} h u := by
    have lawful := h.1 u
    rw [round_setRound]
    split
    · rename_i same
      subst same
      simp only [bne_self_eq_false] at lawful
      exact lawful
    · rename_i other
      have differs : (u != q) = true := by simpa using Ne.symm other
      simp only [differs] at lawful
      exact lawful

/-! ## Counting entries -/

/-- The entries of all sides that `m` picks. -/
def State.total (m : Entry → Bool) (s : State) : Nat := s.entries.countP fun x => m x.2

theorem total_eq_sum (m : Entry → Bool) (s : State) : s.total m = ∑ q, (s.round q).entries.countP m := by
  unfold State.total State.entries allRounds
  rw [List.countP_flatMap, Fin.sum_univ_def]
  congr 1
  refine List.map_congr_left fun q _ => ?_
  simp [List.countP_map, Function.comp_def]

theorem length_entries (s : State) : s.entries.length = s.total fun _ => true := by simp [State.total]

theorem total_congr {s t : State} (m : Entry → Bool) (h : t.rounds = s.rounds) : t.total m = s.total m := by
  simp only [total_eq_sum, State.round, h]

/-- One round written: the count changes by what that round holds. -/
theorem total_setRound (m : Entry → Bool) (s : State) (q : Fin 64) (x : Round) :
    (s.setRound q x).total m + (s.round q).entries.countP m = s.total m + x.entries.countP m := by
  rw [total_eq_sum, total_eq_sum, ← Finset.add_sum_erase _ _ (Finset.mem_univ q),
    ← Finset.add_sum_erase _ (fun u => (s.round u).entries.countP m) (Finset.mem_univ q)]
  have rest : ∑ u ∈ Finset.univ.erase q, ((s.setRound q x).round u).entries.countP m =
      ∑ u ∈ Finset.univ.erase q, (s.round u).entries.countP m := by
    refine Finset.sum_congr rfl fun u hu => ?_
    rw [round_setRound_of_ne _ _ (Finset.ne_of_mem_erase hu).symm]
  rw [rest, round_setRound_same]
  omega

theorem countP_insertPlaced (m : Entry → Bool) (e : Entry) (l : List Entry) :
    (insertPlaced e l).countP m = l.countP m + if m e then 1 else 0 := by
  rw [(insertPlaced_perm e l).countP_eq, List.countP_cons]

theorem countP_insertCarried (m : Entry → Bool) (e : Entry) (l : List Entry) :
    (insertCarried e l).countP m = l.countP m + if m e then 1 else 0 := by
  rw [(insertCarried_perm e l).countP_eq, List.countP_cons]

theorem countP_unmarked (m : Entry → Bool) (l : List Entry) :
    (l.filter fun e => !e.marked).countP m ≤ l.countP m :=
  List.filter_sublist.countP_le

theorem Round.countP_entries (m : Entry → Bool) (x : Round) :
    x.entries.countP m = x.fill.countP m + x.other.countP m := by
  rw [Round.entries, List.countP_append]

/-! ## The pool -/

theorem poolLaw_iff (s : State) : PoolLaw s ↔ s.free + s.total (fun _ => true) = 4096 := by
  rw [PoolLaw, length_entries]

/-- The entries and the free slots of the pool, with `n` entries that are on no side just now. -/
def poolHolds (n : Nat) (s : State) : Prop := s.free + s.total (fun _ => true) + n = 4096

theorem length_unmarked_add (l : List Entry) :
    (l.filter fun e => !e.marked).length + l.countP Entry.marked = l.length := by
  rw [← List.countP_eq_length_filter, Nat.add_comm]
  simpa using (List.length_eq_countP_add_countP (l := l) Entry.marked).symm

/-- A round is written: the entries it wins or loses come from the pool, go to it, or are carried over. -/
theorem poolHolds_setRound {s t : State} {q : Fin 64} {x : Round} {n k : Nat} (h : poolHolds n s)
    (rounds : t.rounds = Vec.put s.rounds q x)
    (count : t.free + x.fill.length + x.other.length + k =
      s.free + (s.round q).fill.length + (s.round q).other.length + n) : poolHolds k t := by
  have written := total_setRound (fun _ => true) s q x
  rw [← total_congr (t := t) (s := s.setRound q x) (fun _ => true) rounds, Round.countP_entries,
    Round.countP_entries] at written
  simp only [List.countP_true] at written
  unfold poolHolds at h ⊢
  omega

theorem pool_sideLaw : SideLaw (fun s => RoundLaw s ∧ poolHolds 0 s)
    fun q l s => roundsReleasing q l s ∧ poolHolds l.length s where
  congr same h := ⟨rounds_sideLaw.congr same h.1, by
    have := total_congr (fun _ => true) same.1
    unfold poolHolds at h ⊢
    rw [this, same.2.1]
    exact h.2⟩
  onReset := ⟨rounds_sideLaw.onReset, by
    simp [poolHolds, total_eq_sum, State.round, State.reset, Round.powerOn, Round.entries, Config.poolSize]⟩
  onSealUnbound {s q} e free bound h := by
    refine ⟨rounds_sideLaw.onSealUnbound e free bound h.1, poolHolds_setRound h.2 rfl ?_⟩
    obtain ⟨-, -, -, -, empty, -⟩ := h.1 q
    simp [Round.sealedAt, (empty free).1]
  onSealBound {s q p} e free bound h := by
    refine ⟨rounds_sideLaw.onSealBound e free bound h.1, poolHolds_setRound h.2 rfl ?_⟩
    obtain ⟨-, -, -, -, empty, -⟩ := h.1 q
    simp [Round.sealedAt, (empty free).1]
  onHeld m notFree h := ⟨rounds_sideLaw.onHeld m notFree h.1, poolHolds_setRound h.2 rfl rfl⟩
  onReturn {s p q} reads h := by
    refine ⟨rounds_sideLaw.onReturn reads h.1, poolHolds_setRound h.2 rfl ?_⟩
    have := length_unmarked_add (s.round q).other
    simp only [setPort_free, setFree_free]
    omega
  onLoose waiting h := ⟨rounds_sideLaw.onLoose waiting h.1, poolHolds_setRound h.2 rfl rfl⟩
  onBindWaits unbound free notSealed h :=
    ⟨rounds_sideLaw.onBindWaits unbound free notSealed h.1, poolHolds_setRound h.2 rfl rfl⟩
  onBindOpens unbound free isSealed h :=
    ⟨rounds_sideLaw.onBindOpens unbound free isSealed h.1, poolHolds_setRound h.2 rfl rfl⟩
  onRewindEmpty _ _ h := h
  onRewind reads entries h := ⟨rounds_sideLaw.onRewind reads entries h.1, poolHolds_setRound h.2 rfl rfl⟩
  onConfigure inRange cap fill other h :=
    ⟨rounds_sideLaw.onConfigure inRange cap fill other h.1, poolHolds_setRound h.2 rfl rfl⟩
  onCursor _ _ h := h
  onSpend reading beyond cursor h := ⟨rounds_sideLaw.onSpend reading beyond cursor h.1, poolHolds_setRound h.2 rfl rfl⟩
  onUsed _ h := h
  onAge _ h := h
  onDropFill side unmarked h := by
    refine ⟨rounds_sideLaw.onDropFill side unmarked h.1, poolHolds_setRound h.2 rfl ?_⟩
    simp [side]; omega
  onDropOther side unmarked removes h := by
    refine ⟨rounds_sideLaw.onDropOther side unmarked removes h.1, poolHolds_setRound h.2 rfl ?_⟩
    simp [side]; omega
  onMark m side unmarked reads h := by
    refine ⟨rounds_sideLaw.onMark m side unmarked reads h.1, poolHolds_setRound h.2 rfl ?_⟩
    simp [side]
  onUpgradeFill side unmarked up h := by
    refine ⟨rounds_sideLaw.onUpgradeFill side unmarked up h.1, poolHolds_setRound h.2 rfl ?_⟩
    simp [side]; omega
  onUpgradeOther side unmarked removes up h := by
    refine ⟨rounds_sideLaw.onUpgradeOther side unmarked removes up h.1, poolHolds_setRound h.2 rfl ?_⟩
    simp [side]; omega
  onAdd absent mark carried room pool h := by
    refine ⟨rounds_sideLaw.onAdd absent mark carried room pool h.1, poolHolds_setRound h.2 rfl ?_⟩
    simp; omega
  onDisplace d absent mark carried side h := by
    refine ⟨rounds_sideLaw.onDisplace d absent mark carried side h.1, poolHolds_setRound h.2 rfl ?_⟩
    simp [side]
  onRestart h := ⟨rounds_sideLaw.onRestart h.1, by
    simp [poolHolds, total_eq_sum, State.round, Round.entries, Round.restart]⟩
  congrR same h := ⟨rounds_sideLaw.congrR same h.1, by
    have := total_congr (fun _ => true) same.1
    unfold poolHolds at h ⊢
    rw [this, same.2.1]
    exact h.2⟩
  freeR h := rounds_sideLaw.freeR h.1
  onHandBack {s p q} reads h := by
    refine ⟨rounds_sideLaw.onHandBack reads h.1, poolHolds_setRound h.2 rfl ?_⟩
    have := length_unmarked_add (s.round q).other
    simp only [setPort_free, setFree_free, List.length_nil]
    omega
  onCarry room h := by
    refine ⟨rounds_sideLaw.onCarry room h.1, poolHolds_setRound h.2 rfl ?_⟩
    simp; omega
  onCarryDisplaces d side h := by
    refine ⟨rounds_sideLaw.onCarryDisplaces d side h.1, poolHolds_setRound h.2 rfl ?_⟩
    simp [side]; omega
  onCarryDrops {s q e l} h := by
    refine ⟨rounds_sideLaw.onCarryDrops h.1, ?_⟩
    have pool := h.2
    have := total_congr (s := s) (t := s.setFree (s.free + 1)) (fun _ => true) rfl
    simp only [poolHolds, List.length_cons, setFree_free] at pool ⊢
    omega
  onDropFillR side unmarked h := by
    refine ⟨rounds_sideLaw.onDropFillR side unmarked h.1, poolHolds_setRound h.2 rfl ?_⟩
    simp [side]; omega
  onDropOtherR side unmarked removes h := by
    refine ⟨rounds_sideLaw.onDropOtherR side unmarked removes h.1, poolHolds_setRound h.2 rfl ?_⟩
    simp [side]; omega
  onMarkR m side unmarked reads h := by
    refine ⟨rounds_sideLaw.onMarkR m side unmarked reads h.1, poolHolds_setRound h.2 rfl ?_⟩
    simp [side]
  onComplete h := ⟨rounds_sideLaw.onComplete h.1, poolHolds_setRound h.2 rfl rfl⟩

/-- Settles O55: the rounds' law, and the pool's with it, are laws of the sides. -/
theorem roundsAndPoolKept : Obligations.RoundsAndPoolKept := by
  refine ⟨rounds_sideLaw.sheetLaw.kept, ?_⟩
  simpa only [poolLaw_iff, poolHolds, Nat.add_zero] using pool_sideLaw.sheetLaw.kept

/-! ## At most one unmarked entry for a slot -/

theorem unmarkedLaw_iff (s : State) : UnmarkedLaw s ↔ ∀ i, s.total (Entry.unmarkedAt i) ≤ 1 := Iff.rfl

/-- At most one unmarked entry for a slot, on the sides and among the entries `l` that are being carried over. -/
def uniqueWith (l : List Entry) (s : State) : Prop :=
  ∀ i, s.total (Entry.unmarkedAt i) + l.countP (Entry.unmarkedAt i) ≤ 1

/-- A round is written: no slot is named by more unmarked entries than before. -/
theorem uniqueWith_setRound {s t : State} {q : Fin 64} {x : Round} {l l' : List Entry} (h : uniqueWith l s)
    (rounds : t.rounds = Vec.put s.rounds q x)
    (count : ∀ i, x.fill.countP (Entry.unmarkedAt i) + x.other.countP (Entry.unmarkedAt i) +
        l'.countP (Entry.unmarkedAt i) ≤
      (s.round q).fill.countP (Entry.unmarkedAt i) + (s.round q).other.countP (Entry.unmarkedAt i) +
        l.countP (Entry.unmarkedAt i)) : uniqueWith l' t := by
  intro i
  have written := total_setRound (Entry.unmarkedAt i) s q x
  rw [← total_congr (t := t) (s := s.setRound q x) _ rounds, Round.countP_entries, Round.countP_entries] at written
  have := h i
  have := count i
  omega

theorem total_eq_zero {s : State} {i : Nat} (h : locate s.rounds i = none) : s.total (Entry.unmarkedAt i) = 0 := by
  rw [total_eq_sum]
  refine Finset.sum_eq_zero fun q _ => List.countP_eq_zero.mpr fun e he => ?_
  simpa using locate_none.mp h q e he

/-- A new entry for a slot that no unmarked entry names. -/
theorem uniqueWith_add {s t : State} {q : Fin 64} {x : Round} {e : Entry} (h : uniqueWith [] s)
    (absent : locate s.rounds e.slot = none) (rounds : t.rounds = Vec.put s.rounds q x)
    (count : ∀ i, x.fill.countP (Entry.unmarkedAt i) + x.other.countP (Entry.unmarkedAt i) ≤
      (s.round q).fill.countP (Entry.unmarkedAt i) + (s.round q).other.countP (Entry.unmarkedAt i) +
        [e].countP (Entry.unmarkedAt i)) : uniqueWith [] t := by
  intro i
  have written := total_setRound (Entry.unmarkedAt i) s q x
  rw [← total_congr (t := t) (s := s.setRound q x) _ rounds, Round.countP_entries, Round.countP_entries] at written
  have old := h i
  have new := count i
  simp only [List.countP_nil, List.countP_singleton] at old new ⊢
  split at new
  · rename_i names
    rw [← ((unmarkedAt_iff i e).mp names).2, total_eq_zero absent] at written
    rw [← ((unmarkedAt_iff i e).mp names).2] at new ⊢
    omega
  · omega

theorem unmarkedAt_upgradeOf {i : Nat} {e e' : Entry} (unmarked : e.mark = .none) (h : upgradeOf e e') :
    e'.unmarkedAt i = e.unmarkedAt i := by
  obtain ⟨mark, slot, -, -⟩ := h
  simp [Entry.unmarkedAt, mark, slot, unmarked]

theorem countP_mark (i : Nat) (m : Mark) {e : Entry} {j : Nat} (unmarked : e.unmarkedAt j = true) :
    [{ e with mark := m }].countP (Entry.unmarkedAt i) ≤ [e].countP (Entry.unmarkedAt i) := by
  have := ((unmarkedAt_iff j e).mp unmarked).1
  by_cases slot : e.slot = i
  · simp only [List.countP_singleton, Entry.unmarkedAt, this, slot]
    split <;> simp
  · simp [Entry.unmarkedAt, slot]

theorem unmarked_sideLaw : SideLaw (uniqueWith []) fun q l s => (s.round q).otherState = .free ∧ uniqueWith l s where
  congr same h i := by rw [total_congr _ same.1]; exact h i
  onReset i := by simp [total_eq_sum, State.round, State.reset, Round.powerOn, Round.entries]
  onSealUnbound e _ _ h := uniqueWith_setRound h rfl fun i => by simp [Round.sealedAt]
  onSealBound e _ _ h := uniqueWith_setRound h rfl fun i => by simp [Round.sealedAt]
  onHeld _ _ h := uniqueWith_setRound h rfl fun _ => le_rfl
  onReturn {s p q} _ h := uniqueWith_setRound h rfl fun i => by
    have := countP_unmarked (Entry.unmarkedAt i) (s.round q).other
    dsimp only
    omega
  onLoose _ h := uniqueWith_setRound h rfl fun _ => le_rfl
  onBindWaits _ _ _ h := uniqueWith_setRound h rfl fun _ => le_rfl
  onBindOpens _ _ _ h := uniqueWith_setRound h rfl fun _ => le_rfl
  onRewindEmpty _ _ h := h
  onRewind _ _ h := uniqueWith_setRound h rfl fun _ => le_rfl
  onConfigure _ _ _ _ h := uniqueWith_setRound h rfl fun _ => le_rfl
  onCursor _ _ h := h
  onSpend _ _ _ h := uniqueWith_setRound h rfl fun _ => le_rfl
  onUsed _ h := h
  onAge _ h := h
  onDropFill side _ h := uniqueWith_setRound h rfl fun i => by
    simp only [side, List.countP_append, List.countP_cons]; omega
  onDropOther side _ _ h := uniqueWith_setRound h rfl fun i => by
    simp only [side, List.countP_append, List.countP_cons]; omega
  onMark m side unmarked _ h := uniqueWith_setRound h rfl fun i => by
    have := countP_mark i m unmarked
    simp only [side, List.countP_append, List.countP_cons, List.countP_nil] at this ⊢; omega
  onUpgradeFill side unmarked up h := uniqueWith_setRound h rfl fun i => by
    have := unmarkedAt_upgradeOf (i := i) ((unmarkedAt_iff _ _).mp unmarked).1 up
    simp only [side, List.countP_append, List.countP_cons, countP_insertPlaced, this]; omega
  onUpgradeOther side unmarked _ up h := uniqueWith_setRound h rfl fun i => by
    have := unmarkedAt_upgradeOf (i := i) ((unmarkedAt_iff _ _).mp unmarked).1 up
    simp only [side, List.countP_append, List.countP_cons, countP_insertPlaced, this]; omega
  onAdd absent _ _ _ _ h := uniqueWith_add h absent rfl fun i => by
    simp only [countP_insertPlaced, List.countP_singleton]; omega
  onDisplace d absent _ _ side h := uniqueWith_add h absent rfl fun i => by
    simp only [side, countP_insertPlaced, List.countP_append, List.countP_singleton]; omega
  onRestart _ i := by simp [total_eq_sum, State.round, Round.entries, Round.restart]
  congrR same h := ⟨by unfold State.round at h ⊢; rw [same.1]; exact h.1,
    fun i => by rw [total_congr _ same.1]; exact h.2 i⟩
  freeR h := h.1
  onHandBack {s p q} _ h := ⟨by simp, uniqueWith_setRound h rfl fun i => by
    have := countP_unmarked (Entry.unmarkedAt i) (s.round q).other
    simp only [List.countP_nil]
    omega⟩
  onCarry {s q e l} _ h := ⟨by simpa using h.1, uniqueWith_setRound h.2 rfl fun i => by
    have : { e with carried := true }.unmarkedAt i = e.unmarkedAt i := rfl
    simp only [countP_insertCarried, List.countP_cons, this]; omega⟩
  onCarryDisplaces {s q e l front last} d side h := ⟨by simpa using h.1, uniqueWith_setRound h.2 rfl fun i => by
    have : { e with carried := true }.unmarkedAt i = e.unmarkedAt i := rfl
    simp only [side, countP_insertCarried, List.countP_append, List.countP_cons, this]; omega⟩
  onCarryDrops {s q e l} h := ⟨h.1, fun i => by
    have := h.2 i
    rw [total_congr (t := s.setFree (s.free + 1)) (s := s) _ rfl]
    simp only [List.countP_cons] at this
    omega⟩
  onDropFillR {s u l q i before e after} side _ h := ⟨by
      have := h.1; rw [round_setFree, round_setRound]; split <;> simp_all,
    uniqueWith_setRound h.2 rfl fun i => by simp only [side, List.countP_append, List.countP_cons]; omega⟩
  onDropOtherR {s u l q i before e after} side _ _ h := ⟨by
      have := h.1; rw [round_setFree, round_setRound]; split <;> simp_all,
    uniqueWith_setRound h.2 rfl fun i => by simp only [side, List.countP_append, List.countP_cons]; omega⟩
  onMarkR {s u l q i before e after} m side unmarked _ h := ⟨by
      have := h.1; rw [round_setRound]; split <;> simp_all,
    uniqueWith_setRound h.2 rfl fun i => by
      have := countP_mark i m unmarked
      simp only [side, List.countP_append, List.countP_cons, List.countP_nil] at this ⊢; omega⟩
  onComplete h := uniqueWith_setRound h.2 rfl fun _ => le_rfl

theorem uniqueWith_nil : uniqueWith [] = UnmarkedLaw := by
  funext s
  simp only [uniqueWith, List.countP_nil, Nat.add_zero, unmarkedLaw_iff]

theorem unmarked_sheetLaw : SheetLaw (fun _ => True) (fun _ => True) UnmarkedLaw :=
  uniqueWith_nil ▸ unmarked_sideLaw.sheetLaw

/-- Settles O56: the uniqueness of unmarked entries is a law of the sides. -/
theorem unmarkedEntriesUnique : Obligations.UnmarkedEntriesUnique := unmarked_sheetLaw.kept

end Sys2Proof.Machine
end

section
/-! PROOFS. Every step keeps ports and rounds in agreement (O58): one lemma for a round written while its binding stands,
one for a port and its round written together, one for a round without a port. -/

namespace Sys2Proof.Machine

/-! ## A port and the round it is bound to -/

theorem boundRound_of_reads {x : Port} {q : Fin 64} (h : x.state.reads = some q) : x.boundRound = some q := by
  unfold Port.boundRound
  cases state : x.state <;> simp_all [PortState.reads, PortState.round]

/-- A side is OPEN or SPENT. -/
def Round.isRead (x : Round) : Prop := x.otherState = .opened ∨ x.otherState = .spent

theorem isRead_iff (x : Round) : x.isRead ↔ x.otherState.removes = false := by
  unfold Round.isRead
  cases x.otherState <;> simp [OtherState.removes]

theorem portLawful_congr {s t : State} {p : Fin 4} (port : t.port p = s.port p)
    (round : ∀ q, (s.port p).boundRound = some q → (t.round q).otherState = (s.round q).otherState ∧
      ((s.round q).isRead → (t.round q).other.length = (s.round q).other.length)) (h : portLawful s p) :
    portLawful t p := by
  unfold portLawful at h ⊢
  unfold Port.boundRound at round
  rw [port]
  cases state : (s.port p).state with
  | unbound => simpa [state] using h
  | waiting q =>
    simp only [state] at h ⊢
    exact ⟨h.1, h.2.1, h.2.2.1, (round q (by simp [state, PortState.round])).1 ▸ h.2.2.2⟩
  | reading q =>
    simp only [state] at h ⊢
    obtain ⟨same, length⟩ := round q (by simp [state, PortState.round])
    rw [same, length (Or.inl h.2)]
    exact h
  | exhausted q =>
    simp only [state] at h ⊢
    obtain ⟨same, length⟩ := round q (by simp [state, PortState.round])
    rw [same, length (Or.inr h.2)]
    exact h

theorem round_of_rounds {s t : State} {q : Fin 64} {x : Round} (h : t.rounds = Vec.put s.rounds q x) (u : Fin 64) :
    t.round u = if q = u then x else s.round u := by
  unfold State.round
  rw [h, Vec.get_put]

theorem port_of_ports {s t : State} {p : Fin 4} {y : Port} (h : t.ports = Vec.put s.ports p y) (u : Fin 4) :
    t.port u = if p = u then y else s.port u := by
  unfold State.port
  rw [h, Vec.get_put]

theorem port_of_same {s t : State} (h : t.ports = s.ports) (p : Fin 4) : t.port p = s.port p := by
  unfold State.port
  rw [h]

/-! ## One round written -/

/-- A round is written, its binding stands, and the side a port may read keeps its state and its length. -/
theorem PortLaw.setRound {s t : State} {q : Fin 64} {x : Round} (h : PortLaw s) (rounds : t.rounds = Vec.put s.rounds q x)
    (ports : t.ports = s.ports) (bound : x.bound = (s.round q).bound) (state : x.otherState = (s.round q).otherState)
    (length : (s.round q).isRead → x.other.length = (s.round q).other.length) : PortLaw t := by
  obtain ⟨names, lawful, read⟩ := h
  have sameBound : ∀ u, (t.round u).bound = (s.round u).bound := by
    intro u; rw [round_of_rounds rounds]; split
    · rename_i same; exact same ▸ bound
    · rfl
  have sameState : ∀ u, (t.round u).otherState = (s.round u).otherState := by
    intro u; rw [round_of_rounds rounds]; split
    · rename_i same; exact same ▸ state
    · rfl
  refine ⟨fun p u => by rw [port_of_same ports, sameBound]; exact names p u, fun p => ?_, fun u => ?_⟩
  · refine portLawful_congr (port_of_same ports p) (fun u _ => ⟨sameState u, fun isRead => ?_⟩) (lawful p)
    rw [round_of_rounds rounds]; split
    · rename_i same; subst same; exact length isRead
    · rfl
  · rw [sameState]
    intro isRead
    obtain ⟨p, reads⟩ := read u isRead
    exact ⟨p, by rw [port_of_same ports]; exact reads⟩

/-- A round without a port is written; no port reads its side. -/
theorem PortLaw.setRound_unbound {s t : State} {q : Fin 64} {x : Round} (h : PortLaw s)
    (rounds : t.rounds = Vec.put s.rounds q x) (ports : t.ports = s.ports) (unbound : (s.round q).bound = none)
    (bound : x.bound = none) (notRead : ¬ x.isRead) : PortLaw t := by
  obtain ⟨names, lawful, read⟩ := h
  have noPort : ∀ p, (s.port p).boundRound ≠ some q := by
    intro p isBound
    rw [names p q, unbound] at isBound
    cases isBound
  refine ⟨fun p u => ?_, fun p => ?_, fun u isRead => ?_⟩
  · rw [port_of_same ports, round_of_rounds rounds, names p u]
    split
    · rename_i same; subst same; rw [unbound, bound]
    · rfl
  · refine portLawful_congr (port_of_same ports p) (fun u isBound => ?_) (lawful p)
    rw [round_of_rounds rounds, if_neg (by rintro rfl; exact noPort p isBound)]
    exact ⟨rfl, fun _ => rfl⟩
  · rw [round_of_rounds rounds] at isRead
    split at isRead
    · exact absurd isRead notRead
    · obtain ⟨p, reads⟩ := read u isRead
      exact ⟨p, by rw [port_of_same ports]; exact reads⟩

/-! ## A port and a round written together -/

/-- A port and a round, each free or bound to the other, are written and are then both bound to the other or both
free. -/
theorem PortLaw.write {s t : State} {p : Fin 4} {q : Fin 64} {x : Round} {y : Port} (h : PortLaw s)
    (rounds : t.rounds = Vec.put s.rounds q x) (ports : t.ports = Vec.put s.ports p y)
    (port : ∀ u, (s.port p).boundRound = some u → u = q) (round : ∀ u, (s.round q).bound = some u → u = p)
    (names : y.boundRound = some q ∧ x.bound = some p ∨ y.boundRound = none ∧ x.bound = none)
    (lawful : portLawful t p) (read : x.isRead → y.state.reads = some q) : PortLaw t := by
  obtain ⟨oldNames, oldLawful, oldRead⟩ := h
  have namesOnly : ∀ u, y.boundRound = some u → u = q := by
    intro u isBound
    rcases names with ⟨isQ, -⟩ | ⟨isNone, -⟩
    · rw [isQ] at isBound; exact (Option.some.inj isBound).symm
    · rw [isNone] at isBound; cases isBound
  have boundOnly : ∀ u, x.bound = some u → u = p := by
    intro u isBound
    rcases names with ⟨-, isP⟩ | ⟨-, isNone⟩
    · rw [isP] at isBound; exact (Option.some.inj isBound).symm
    · rw [isNone] at isBound; cases isBound
  have noOther : ∀ p', p ≠ p' → (s.port p').boundRound ≠ some q := by
    intro p' other isBound
    exact other (round p' ((oldNames p' q).mp isBound)).symm
  refine ⟨fun p' q' => ?_, fun p' => ?_, fun q' isRead => ?_⟩
  · rw [port_of_ports ports, round_of_rounds rounds]
    by_cases sameP : p = p' <;> by_cases sameQ : q = q'
    · subst sameP sameQ
      simp only [if_true]
      rcases names with ⟨isQ, isP⟩ | ⟨noQ, noP⟩
      · simp [isQ, isP]
      · simp [noQ, noP]
    · subst sameP
      simp only [if_true, if_neg sameQ]
      exact ⟨fun isBound => absurd (namesOnly q' isBound).symm sameQ,
        fun isBound => absurd (port q' ((oldNames p q').mpr isBound)).symm sameQ⟩
    · subst sameQ
      simp only [if_true, if_neg sameP]
      exact ⟨fun isBound => absurd isBound (noOther p' sameP), fun isBound => absurd (boundOnly p' isBound).symm sameP⟩
    · simp only [if_neg sameP, if_neg sameQ]
      exact oldNames p' q'
  · by_cases sameP : p = p'
    · exact sameP ▸ lawful
    · refine portLawful_congr (by rw [port_of_ports ports, if_neg sameP]) (fun u isBound => ?_) (oldLawful p')
      rw [round_of_rounds rounds, if_neg (by rintro rfl; exact noOther p' sameP isBound)]
      exact ⟨rfl, fun _ => rfl⟩
  · rw [round_of_rounds rounds] at isRead
    split at isRead
    · rename_i sameQ
      exact ⟨p, by rw [port_of_ports ports, if_pos rfl, read isRead, sameQ]⟩
    · rename_i otherQ
      obtain ⟨p', reads⟩ := oldRead q' isRead
      refine ⟨p', ?_⟩
      rw [port_of_ports ports, if_neg]
      · exact reads
      · rintro rfl
        exact otherQ (port q' (boundRound_of_reads reads)).symm

/-! ## The law of ports and rounds -/

theorem openedPort_lawful {t : State} {p : Fin 4} {q : Fin 64} {l : List Entry} (port : t.port p = openedPort q l)
    (state : (t.round q).otherState = opensAs l) (other : (t.round q).other = l) : portLawful t p := by
  unfold portLawful
  rw [port]
  by_cases empty : l = []
  · simp [openedPort, opensAs, empty, state, other]
  · simp [openedPort, opensAs, empty, state, other, List.length_pos_iff]

theorem openedPort_bound (q : Fin 64) (l : List Entry) :
    (openedPort q l).boundRound = some q ∧ (openedPort q l).state.reads = some q := by
  unfold openedPort
  split <;> exact ⟨rfl, rfl⟩

section Bound

variable {s : State} {p : Fin 4} {q : Fin 64}

/-- A port that is bound to a round and its round are bound to nothing else. -/
theorem PortLaw.pair (h : PortLaw s) (bound : (s.port p).boundRound = some q) :
    (s.round q).bound = some p ∧ (∀ u, (s.port p).boundRound = some u → u = q) ∧
      ∀ u, (s.round q).bound = some u → u = p := by
  have isP := (h.1 p q).mp bound
  refine ⟨isP, fun u isU => ?_, fun u isU => ?_⟩
  · rw [bound] at isU; exact (Option.some.inj isU).symm
  · rw [isP] at isU; exact (Option.some.inj isU).symm

/-- No port reads a side of a round without a port. -/
theorem PortLaw.notRead (h : PortLaw s) (unbound : (s.round q).bound = none) : ¬ (s.round q).isRead := by
  intro isRead
  obtain ⟨u, reads⟩ := h.2.2 q isRead
  have isBound := (h.1 u q).mp (boundRound_of_reads reads)
  rw [unbound] at isBound
  cases isBound

/-- A port's record is written, and with it the state of the side it reads. -/
theorem PortLaw.reread {t : State} {x : Round} {y : Port} (h : PortLaw s) (reads : (s.port p).state.reads = some q)
    (rounds : t.rounds = Vec.put s.rounds q x) (ports : t.ports = Vec.put s.ports p y) (bound : x.bound = (s.round q).bound)
    (reading : y.state.reads = some q) (lawful : portLawful t p) : PortLaw t := by
  obtain ⟨isP, onlyQ, onlyP⟩ := h.pair (boundRound_of_reads reads)
  exact h.write rounds ports onlyQ onlyP (Or.inl ⟨boundRound_of_reads reading, bound.trans isP⟩) lawful
    fun _ => reading

end Bound

theorem Port.age_fields (n : Nat) (y : Port) : (y.age n).state = y.state ∧ (y.age n).cursor = y.cursor ∧
    (y.state.timed = false → y.age n = y) := by
  unfold Port.age
  split
  · rename_i running
    exact ⟨rfl, rfl, fun notTimed => by simp [notTimed] at running⟩
  · exact ⟨rfl, rfl, fun _ => rfl⟩

theorem PortLaw.congr {s t : State} (same : sameSides s t) (h : PortLaw s) : PortLaw t := by
  unfold PortLaw portLawful State.port State.round at h ⊢
  rwa [same.1, same.2.2]

theorem isRead_of_removes {x : Round} (removes : x.otherState.removes = true) : ¬ x.isRead := by
  rw [isRead_iff, removes]; simp

theorem ports_sideLaw : SideLaw PortLaw fun q _ s => PortLaw s ∧ (s.round q).otherState = .free where
  congr := PortLaw.congr
  onReset := by
    refine ⟨fun p q => ?_, fun p => ?_, fun q => ?_⟩ <;>
    simp [State.port, State.round, State.reset, Port.powerOn, Round.powerOn, Port.boundRound, PortState.round, portLawful]
  onSealUnbound e free unbound h :=
    h.setRound_unbound rfl rfl unbound unbound (isRead_of_removes rfl)
  onSealBound {s q p} e free bound h := by
    obtain ⟨-, onlyQ, onlyP⟩ := h.pair ((h.1 p q).mpr bound)
    exact h.write rfl rfl onlyQ onlyP (Or.inl ⟨(openedPort_bound _ _).1, bound⟩)
      (openedPort_lawful (port_setPort_same ..) (by simp) (by simp [Round.sealedAt])) fun _ => (openedPort_bound _ _).2
  onHeld m _ h := h.setRound rfl rfl rfl rfl fun _ => rfl
  onReturn {s p q} reads h := by
    obtain ⟨-, onlyQ, onlyP⟩ := h.pair (boundRound_of_reads reads)
    exact h.write rfl rfl onlyQ onlyP (Or.inr ⟨rfl, rfl⟩) (by simp [portLawful])
      fun isRead => absurd isRead (isRead_of_removes rfl)
  onLoose {s p q} waiting h := by
    have isBound : (s.port p).boundRound = some q := by simp [Port.boundRound, waiting, PortState.round]
    obtain ⟨-, onlyQ, onlyP⟩ := h.pair isBound
    have lawful := h.2.1 p
    simp only [portLawful, waiting] at lawful
    exact h.write rfl rfl onlyQ onlyP (Or.inr ⟨rfl, rfl⟩) (by simp [portLawful])
      fun isRead => absurd isRead (isRead_of_removes (by simp [lawful.2.2.2, OtherState.removes]))
  onBindWaits {s p q} unbound free notSealed h := by
    have notRead := h.notRead free
    have isFree : (s.round q).otherState = .free := by
      unfold Round.isRead at notRead
      cases state : (s.round q).otherState <;> simp_all
    exact h.write rfl rfl (by simp [Port.boundRound, unbound, PortState.round]) (by simp [free])
      (Or.inl ⟨rfl, rfl⟩) (by simp [portLawful, isFree]) fun isRead => absurd isRead notRead
  onBindOpens {s p q} unbound free isSealed h :=
    h.write rfl rfl (by simp [Port.boundRound, unbound, PortState.round]) (by simp [free])
      (Or.inl ⟨(openedPort_bound _ _).1, rfl⟩) (openedPort_lawful (port_setPort_same ..) (by simp) (by simp))
      fun _ => (openedPort_bound _ _).2
  onRewindEmpty {s p q} reads empty h := by
    refine h.reread (x := s.round q) reads (Vec.put_get s.rounds q).symm rfl rfl reads ?_
    have lawful := h.2.1 p
    cases state : (s.port p).state with
    | unbound | waiting u => rw [state] at reads; cases reads
    | reading u | exhausted u =>
      rw [state] at reads
      obtain rfl := Option.some.inj reads
      simp only [portLawful, state] at lawful
      simp_all [portLawful]
  onRewind {s p q} reads entries h :=
    h.reread reads rfl rfl rfl rfl (by simp [portLawful, List.length_pos_iff, entries])
  onConfigure _ _ _ _ h := h.setRound rfl rfl rfl rfl fun _ => rfl
  onCursor {s p q c} reading inside h := by
    have lawful := h.2.1 p
    simp only [portLawful, reading] at lawful
    exact h.reread (x := s.round q) (by simp [reading, PortState.reads]) (Vec.put_get s.rounds q).symm rfl rfl rfl
      (by simp [portLawful, inside, lawful.2])
  onSpend {s p q c} reading beyond cursor h := by
    have lawful := h.2.1 p
    simp only [portLawful, reading] at lawful
    refine h.reread (by simp [reading, PortState.reads]) rfl rfl rfl rfl ?_
    simp only [portLawful, port_setPort_same, round_setPort, round_setRound_same, and_true]
    omega
  onUsed {s p q} exhausted h := by
    have lawful := h.2.1 p
    simp only [portLawful, exhausted] at lawful
    exact h.reread (x := s.round q) (by simp [exhausted, PortState.reads]) (Vec.put_get s.rounds q).symm rfl rfl
      (by simp [Port.used, exhausted, PortState.reads]) (by simpa [portLawful, Port.used, exhausted] using lawful)
  onAge {s} n h := by
    have port : ∀ p, (s.setPorts (Vec.map (Port.age n) s.ports)).port p = (s.port p).age n := by
      intro p; simp [State.port]
    refine ⟨fun p q => ?_, fun p => ?_, fun q isRead => ?_⟩
    · rw [port, Port.boundRound, (Port.age_fields n _).1]
      exact h.1 p q
    · have lawful := h.2.1 p
      obtain ⟨state, cursor, untimed⟩ := Port.age_fields n (s.port p)
      unfold portLawful at lawful ⊢
      have round : ∀ u, (s.setPorts (Vec.map (Port.age n) s.ports)).round u = s.round u := fun _ => rfl
      rw [port, state, cursor]
      simp only [round]
      cases now : (s.port p).state with
      | unbound | waiting u =>
        rw [untimed (by simp [now, PortState.timed])]
        simpa [now] using lawful
      | reading u | exhausted u => simpa [now] using lawful
    · obtain ⟨p, reads⟩ := h.2.2 q isRead
      exact ⟨p, by rw [port, (Port.age_fields n _).1]; exact reads⟩
  onDropFill _ _ h := h.setRound rfl rfl rfl rfl fun _ => rfl
  onDropOther _ _ removes h :=
    h.setRound rfl rfl rfl rfl fun isRead => absurd isRead (isRead_of_removes removes)
  onMark m side _ _ h := h.setRound rfl rfl rfl rfl fun _ => by simp [side]
  onUpgradeFill _ _ _ h := h.setRound rfl rfl rfl rfl fun _ => rfl
  onUpgradeOther _ _ removes _ h :=
    h.setRound rfl rfl rfl rfl fun isRead => absurd isRead (isRead_of_removes removes)
  onAdd _ _ _ _ _ h := h.setRound rfl rfl rfl rfl fun _ => rfl
  onDisplace d _ _ _ _ h := h.setRound rfl rfl rfl rfl fun _ => rfl
  onRestart h := by
    refine ⟨fun p q => ?_, fun p => ?_, fun q => ?_⟩ <;>
    simp [State.port, State.round, Port.powerOn, Round.restart, Port.boundRound, PortState.round, portLawful]
  congrR same h := ⟨h.1.congr same, by unfold State.round at h ⊢; rw [same.1]; exact h.2⟩
  freeR h := h.2
  onHandBack {s p q} reads h := by
    obtain ⟨isP, onlyQ, onlyP⟩ := h.pair (boundRound_of_reads reads)
    exact ⟨h.write rfl rfl onlyQ onlyP (Or.inl ⟨rfl, isP⟩) (by simp [portLawful])
      fun isRead => absurd isRead (isRead_of_removes rfl), by simp⟩
  onCarry _ h := ⟨h.1.setRound rfl rfl rfl rfl fun _ => rfl, by simpa using h.2⟩
  onCarryDisplaces d _ h := ⟨h.1.setRound rfl rfl rfl rfl fun _ => rfl, by simpa using h.2⟩
  onCarryDrops h := h
  onDropFillR {s u l q i before e after} _ _ h := ⟨h.1.setRound rfl rfl rfl rfl fun _ => rfl, by
    have := h.2; rw [round_setFree, round_setRound]; split <;> simp_all⟩
  onDropOtherR {s u l q i before e after} _ _ removes h :=
    ⟨h.1.setRound rfl rfl rfl rfl fun isRead => absurd isRead (isRead_of_removes removes), by
      have := h.2; rw [round_setFree, round_setRound]; split <;> simp_all⟩
  onMarkR {s u l q i before e after} m side _ _ h := ⟨h.1.setRound rfl rfl rfl rfl fun _ => by simp [side], by
    have := h.2; rw [round_setRound]; split <;> simp_all⟩
  onComplete h := h.1.setRound rfl rfl rfl rfl fun _ => rfl

/-- Settles O58: the agreement of ports and rounds is a law of the sides. -/
theorem portsAgreeWithRounds : Obligations.PortsAgreeWithRounds := ports_sideLaw.sheetLaw.kept

end Sys2Proof.Machine
end

section
/-! PROOFS. The step, the outcomes of the commands and the reset pin (O1–O4), and the laws at reset (O52). -/

namespace Sys2Proof.Machine

/-! ## The step -/

/-- Settles O1: the queue is empty, or has a front. -/
theorem stepRunsFrontCommand : Obligations.StepRunsFrontCommand := by
  constructor
  · intro s c rest front
    simp only [step, front]
  · intro s empty
    simp only [step, empty]

/-! ## What a command answers -/

/-- The commands on operands the part has are events, but for the release of RST#, which is worked while it is low. -/
theorem exec_wellFormed (c : Instr) (wf : c.wellFormed = true) :
    (∃ f, ∀ s, exec c s = event s f) ∨ ∃ high asserted, c = .rstRelease high asserted := by
  cases c with
  | laneFrameEnd lane bytes =>
    have inRange := (Laws.OperandBounds.laneFrameEnd lane bytes).mp wf
    exact Or.inl ⟨_, fun s => by rw [exec_laneFrameEnd, dif_pos inRange]⟩
  | cutoffEvent round =>
    have inRange := (Laws.OperandBounds.cutoffEvent round).mp wf
    exact Or.inl ⟨_, fun s => by rw [exec_cutoffEvent, dif_pos inRange]⟩
  | drawTimerExpiry port =>
    have inRange := (Laws.OperandBounds.drawTimerExpiry port).mp wf
    exact Or.inl ⟨_, fun s => by rw [exec_drawTimerExpiry, dif_pos inRange]⟩
  | rstRelease high asserted => exact Or.inr ⟨high, asserted, rfl⟩
  | _ => exact Or.inl ⟨_, fun s => rfl⟩

/-- Settles O2: an event and the release of RST# answer a next state; a lane, round or port out of range faults. -/
theorem commandsCompleteOrNameAbsentThing : Obligations.CommandsCompleteOrNameAbsentThing := by
  refine ⟨fun c s wf => ?_, fun n b s absent => ?_, fun r s absent => ?_, fun p s absent => ?_⟩
  · rcases exec_wellFormed c wf with ⟨f, worked⟩ | ⟨high, asserted, rfl⟩
    · exact ⟨_, worked s⟩
    · exact ⟨_, rfl⟩
  · rw [exec_laneFrameEnd, dif_neg (Nat.not_lt.mpr absent)]
  · rw [exec_cutoffEvent, dif_neg (Nat.not_lt.mpr absent)]
  · rw [exec_drawTimerExpiry, dif_neg (Nat.not_lt.mpr absent)]

/-! ## The reset pin (R191, R192) -/

/-- Settles O3: an event does nothing while RST# is low. -/
theorem lowResetIgnoresCommands : Obligations.LowResetIgnoresCommands := by
  intro c s low wf notRelease
  rcases exec_wellFormed c wf with ⟨f, worked⟩ | ⟨high, asserted, rfl⟩
  · rw [worked, event_low f low]
  · exact absurd rfl (notRelease high asserted)

/-- Settles O4: both edges of RST# bring the state of reset but for what is listed. -/
theorem resetAssertAndRelease : Obligations.ResetAssertAndRelease := by
  constructor
  · intro s high
    refine ⟨_, (exec_rstAssert s).trans (event_high _ high), rfl, rfl, rfl, fun f rest sending => ?_⟩
    simp only [setTxOut_txOut, cutTx, sending]
  · intro s high asserted low
    refine ⟨released high asserted s, ?_, rfl, rfl, rfl, rfl, fun n => ?_⟩
    · rw [exec_rstRelease, if_pos low]
    · simp [State.lane, released, releasedLane, Vec.get, Lane.powerOn]

/-! ## The laws at reset -/

theorem intakeLaw_reset : IntakeLaw State.reset := by
  simp [IntakeLaw, State.reset, Intake.powerOn]

theorem linkLaw_reset : LinkLaw State.reset := by
  simp [LinkLaw, State.reset, Link.powerOn, Link.reserved]

theorem noticeLaw_reset : NoticeLaw State.reset := by
  simp [NoticeLaw, State.reset, Notices.powerOn, Flag.powerOn]

theorem sweepLaw_reset : SweepLaw State.reset := by
  simp [SweepLaw, State.reset, Sweep.powerOn, Intake.powerOn]

theorem timeLaw_reset : TimeLaw State.reset := by
  simp [TimeLaw, State.reset, TimeBase.powerOn]

theorem settingLaw_reset : SettingLaw State.reset := by
  refine ⟨by decide, by decide, Or.inr (by decide), fun n => ?_⟩
  simp only [State.reset, Vec.get, Vector.getElem_replicate]
  decide

theorem placementLaw_reset : PlacementLaw State.reset := by
  have noEntries : State.reset.entries = [] := by
    simp [State.entries, Round.entries, State.round, State.reset, Round.powerOn]
  refine ⟨fun i r d live => ?_, fun x mem => ?_⟩
  · cases live
  · rw [noEntries] at mem
    cases mem

/-- Settles O52: each law's part about the state of reset. -/
theorem lawsHoldAtReset : Obligations.LawsHoldAtReset :=
  ⟨rfl, wf_tableLaw.sheetLaw.onReset, probes_tableLaw.sheetLaw.onReset.2, records_tableLaw.sheetLaw.onReset,
    rounds_sideLaw.onReset, pool_sideLaw.onReset.2, unmarked_sheetLaw.onReset, placementLaw_reset,
    ports_sideLaw.onReset, intakeLaw_reset, linkLaw_reset, noticeLaw_reset, sweepLaw_reset, timeLaw_reset,
    settingLaw_reset, rfl, rfl, rfl⟩

end Sys2Proof.Machine
end

section
/-! PROOFS. Requests that read or store whole records: profiles (O24), the clocks (O32), the settings (O33) and the
sweep's requests (O43). -/

namespace Sys2Proof.Machine

/-! ## Words of the requests -/

theorem State.isStopped_of_eq {s : State} (h : s.intake.state = .stopped) : s.isStopped = true := decide_eq_true h

theorem State.isStopped_of_ne {s : State} (h : s.intake.state ≠ .stopped) : s.isStopped = false := decide_eq_false h

/-- An answer to the request in hand, as the statements spell it. -/
theorem next_reply (s : State) (code : Byte) (tag : Word16) (operands : List Byte) (q : ResultCode) (d : List Byte) :
    (Host.Outcome.next (reply s ⟨code, tag, operands⟩ q d) : Result) = .next (answeredWith s code tag q.byte d) :=
  congrArg _ (reply_spelled ..)

/-- A byte of at most 1 is a yes or a no. -/
theorem yesNo?_of_le {b : Byte} (h : b.toNat ≤ 1) : yesNo? b = some (decide (b = 1#8)) := by
  by_cases one : b = 1#8
  · simp [yesNo?, one]
  · have zero : b = 0#8 := by
      have : b.toNat ≠ 1 := fun h => one (BitVec.eq_of_toNat_eq h)
      exact BitVec.eq_of_toNat_eq (show b.toNat = 0 by omega)
    simp [yesNo?, zero]

theorem yesNo?_of_lt {b : Byte} (h : 1 < b.toNat) : yesNo? b = none := by
  have notOne : b ≠ 1#8 := by rintro rfl; exact absurd h (by decide)
  have notZero : b ≠ 0#8 := by rintro rfl; exact absurd h (by decide)
  simp [yesNo?, notOne, notZero]

theorem byte_toNat (b : Byte) : byte b.toNat = b := by simp [byte]

/-! ## PROFILE PUT and PROFILE GET (R43, R45) -/

theorem profileOperands_eq (n raise clear overflow maxStep blank check events : Byte) (e f silence : Nat)
    (p : Profile)
    (hp : p = ⟨e, f, raise.toNat, clear.toNat, overflow.toNat, maxStep.toNat, blank.toNat, silence,
      decide (check = 1#8), decide (events = 1#8)⟩) :
    profileOperands n raise clear overflow maxStep blank check events e f silence =
      if check.toNat ≤ 1 ∧ events.toNat ≤ 1 ∧ p.inRange = true then (index? 16 n).map fun i => (i, p) else none := by
  subst hp
  unfold profileOperands
  cases index? 16 n with
  | none => simp
  | some i =>
    by_cases checkRange : check.toNat ≤ 1
    · by_cases eventsRange : events.toNat ≤ 1
      · simp [yesNo?_of_le checkRange, yesNo?_of_le eventsRange, checkRange, eventsRange]
      · simp [yesNo?_of_lt (Nat.not_le.mp eventsRange), eventsRange]
    · simp [yesNo?_of_lt (Nat.not_le.mp checkRange), checkRange]

theorem profileGetRequest_of_index {s : State} {n : Byte} {m : Fin 16} (code : Byte) (tag : Word16)
    (h : m.val = n.toNat) :
    profileGetRequest ⟨code, tag, [n]⟩ s =
      reply s ⟨code, tag, [n]⟩ .ok (Profile.bytes m (Vec.get s.profiles m)) := by
  simp only [profileGetRequest, index?_of_eq h]

/-- Settles O24: PROFILE PUT in STOPPED, on operands out of range and on good ones; PROFILE GET on both. -/
theorem profilePutAndGet : Obligations.ProfilePutAndGet := by
  refine ⟨fun s tag n e0 e1 f0 f1 ra cl ov st bl s0 s1 ck ev asked => ?_, fun s tag n asked => ?_⟩
  · intro good
    have operands := profileOperands_eq n ra cl ov st bl ck ev (num16 e0 e1) (num16 f0 f1) (num16 s0 s1) _ rfl
    rw [exec_profilePut, exec_asked asked]
    refine ⟨fun stopped => ?_, fun running bad => ?_, fun running isGood m number => ?_⟩
    · rw [profilePutRequest, State.isStopped_of_eq stopped]
      exact next_reply ..
    · have refused : profileOperands n ra cl ov st bl ck ev (num16 e0 e1) (num16 f0 f1) (num16 s0 s1) = none := by
        rw [operands]
        split
        · rename_i inRange
          by_cases known : n.toNat ≤ 15
          · refine absurd ⟨known, ?_⟩ bad
            simp only [Profile.inRange, decide_eq_true_eq, num16_eq_append] at inRange
            omega
          · rw [index?_of_le (by omega)]
            rfl
        · rfl
      simp only [profilePutRequest, State.isStopped_of_ne running, refused]
      exact next_reply ..
    · have stored : profileOperands n ra cl ov st bl ck ev (num16 e0 e1) (num16 f0 f1) (num16 s0 s1) =
          some (m, ⟨(e0 ++ e1).toNat, (f0 ++ f1).toNat, ra.toNat, cl.toNat, ov.toNat, st.toNat, bl.toNat,
            (s0 ++ s1).toNat, decide (ck = 1#8), decide (ev = 1#8)⟩) := by
        rw [operands, if_pos, index?_of_eq number]
        · simp only [num16_eq_append, Option.map_some]
        · simp only [Profile.inRange, decide_eq_true_eq, num16_eq_append]
          omega
      simp only [profilePutRequest, State.isStopped_of_ne running, stored]
      exact next_reply ..
  · rw [exec_profileGet, exec_asked asked]
    refine ⟨fun outOfRange => ?_, fun m number => ?_⟩
    · simp only [profileGetRequest, index?_of_le (Nat.succ_le_of_lt outOfRange)]
      exact next_reply ..
    · have spelled : byte m.val = n := by rw [number, byte_toNat]
      rw [profileGetRequest_of_index _ _ number, next_reply, Profile.bytes, spelled]
      rfl

/-! ## CLOCK SET and TIME GET (R95, R97) -/

/-- Taking an epoch end that is owed, with the postscaler's count of it (R86, R90). -/
theorem endEpoch_owed {t : TimeBase} (owed : t.epochEndOwed = true) :
    t.endEpoch = { t with epoch := t.epoch + 1, elapsed := 0, epochEndOwed := false }.countEpochEnd := if_pos owed

theorem endEpoch_notOwed {t : TimeBase} (notOwed : t.epochEndOwed = false) : t.endEpoch = t := by
  simp [TimeBase.endEpoch, notOwed]

/-- Counting an epoch end touches nothing that TIME GET returns but the postscaler's count (R90). -/
theorem countEpochEnd_bytes (t : TimeBase) :
    t.countEpochEnd.bytes = be32 t.tick.toNat ++ be32 t.epoch.toNat ++ be16 t.elapsed ++ be16 t.period ++
      [byte t.interval, byte t.countEpochEnd.postCount, byte t.second] ++ be16 t.minute ++ be16 t.day := by
  unfold TimeBase.countEpochEnd
  split
  · rfl
  · split <;> rfl

/-- Settles O32: CLOCK SET in and out of range; TIME GET with no epoch end owed and with one. -/
theorem clockSetAndTimeGet : Obligations.ClockSetAndTimeGet := by
  refine ⟨fun s tag m0 m1 d0 d1 asked => ?_, fun s tag asked => ?_⟩
  · rw [exec_clockSet, exec_asked asked]
    simp only [clockSetRequest, ← num16_eq_append]
    refine ⟨fun outOfRange => ?_, fun inRange => ?_⟩
    · rw [if_pos outOfRange]
      exact next_reply ..
    · rw [if_neg (Nat.not_lt.mpr inRange)]
      exact next_reply ..
  · rw [exec_timeGet, exec_asked asked]
    refine ⟨fun notOwed => ?_, fun owed => ⟨?_, ?_⟩⟩
    · simp only [timeGetRequest, endEpoch_notOwed notOwed]
      exact next_reply ..
    · simp only [timeGetRequest, endEpoch_owed owed, countEpochEnd_bytes]
      exact next_reply ..
    · rw [exec_epochEnd, event_high _ asked.1, endEpoch_owed owed]
      rfl

/-! ## The settings (R3, R16, R88, R91, R153, R187) -/

section Settings

variable {s : State} {tag : Word16} {item h l : Byte}

/-- The work of a setting on the value that the request in hand gives. -/
theorem onSetting_asked (asked : Asked s 0x92 tag [item, h, l]) (f : Request → Nat → State → State) :
    onSetting s item f = .next (f ⟨0x92, tag, [item, h, l]⟩ (num16 h l) s) := by
  obtain ⟨high, taken⟩ := asked
  exact onSetting_taken item h l f high taken rfl rfl

/-- A value stored, as the statements spell the answer. -/
theorem next_settingStored (t : State) (n : Nat) :
    (Host.Outcome.next (settingStored t ⟨0x92, tag, [item, h, l]⟩ item n) : Result) =
      .next (answeredWith t 0x92 tag 0 ([item] ++ be16 n)) := next_reply ..

end Settings

/-- The enables of the lanes are the bits of the value (section 10.8). -/
theorem laneEnables_get (lanes : Vector Lane 4) (value : Nat) (n : Fin 4) :
    Vec.get (laneEnables lanes value) n = { Vec.get lanes n with enabled := value.testBit n.val } := by
  have four : allLanes = [0, 1, 2, 3] := by decide
  rw [laneEnables, four]
  fin_cases n <;> simp [Vec.get_put_same, Vec.get_put_of_ne]

/-- A value of at most 15 is its low byte. -/
theorem testBit_num16 {h l : Byte} (small : num16 h l ≤ 15) (n : Nat) : (num16 h l).testBit n = l.getLsbD n := by
  have : h.toNat = 0 := by unfold num16 at small; omega
  rw [num16, this, BitVec.getLsbD]
  simp

/-- A byte in two bytes. -/
theorem be16_toNat (b : Byte) : be16 b.toNat = [0, b] := by
  have high : b.toNat / 256 = 0 := Nat.div_eq_of_lt b.isLt
  rw [be16, high, byte_toNat]
  rfl

theorem laneEnableValue_bytes (s : State) :
    be16 (laneEnableValue s) =
      [0, bits [(s.lane 0).enabled, (s.lane 1).enabled, (s.lane 2).enabled, (s.lane 3).enabled]] := be16_toNat _

theorem settingValue_unknown {s : State} {i : Byte} (unknown : i.toNat = 0 ∨ 5 < i.toNat) : settingValue s i = none := by
  unfold settingValue
  split
  case h_6 => rfl
  all_goals omega

/-- Settles O33: the five settings by the ranges of their values, an unknown item, and SETTING GET of each. -/
theorem settingsAreStored : Obligations.SettingsAreStored := by
  refine ⟨fun s tag h l => ?_, fun s tag i h l asked unknown => ?_, fun s tag i asked => ?_⟩
  · intro v stored refused
    have value : num16 h l = v := num16_eq_append h l
    refine ⟨fun asked => ?_, fun asked => ?_, fun asked => ?_, fun asked => ?_, fun asked => ?_⟩
    · rw [exec_laneEnable, onSetting_asked asked, laneEnableSetting, value]
      refine ⟨fun above => ?_, fun inRange => ⟨s.setLanes (laneEnables s.lanes v), ?_, rfl, fun n => ?_⟩⟩
      · rw [if_pos above]; exact next_reply ..
      · rw [if_neg (Nat.not_lt.mpr inRange)]; exact next_settingStored ..
      · rw [← value] at inRange ⊢
        rw [← testBit_num16 inRange]
        exact laneEnables_get ..
    · rw [exec_dedupHold, onSetting_asked asked, dedupHoldSetting, value]
      refine ⟨fun outside => ?_, fun low high => ?_⟩
      · rw [if_pos outside]; exact next_reply ..
      · rw [if_neg (by omega)]; exact next_settingStored ..
    · rw [exec_epochPeriod, onSetting_asked asked, epochPeriodSetting, value]
      refine ⟨fun above => ?_, fun low => ?_, fun low high => ?_⟩
      · rw [if_pos above]; exact next_reply ..
      · rw [if_neg (by omega), max_eq_left (by omega)]; exact next_settingStored ..
      · rw [if_neg (by omega), max_eq_right low]; exact next_settingStored ..
    · rw [exec_sweepInterval, onSetting_asked asked, sweepIntervalSetting, value]
      refine ⟨fun above => ?_, fun inRange => ?_⟩
      · rw [if_pos above]; exact next_reply ..
      · rw [if_neg (by omega)]; exact next_settingStored ..
    · rw [exec_drawIdleLimit, onSetting_asked asked, drawIdleLimitSetting, value]
      refine ⟨fun above => ?_, fun zero => ?_, fun low high => ?_, fun low high => ?_⟩
      · rw [if_pos above]; exact next_reply ..
      · rw [if_neg (by omega), zero]; exact next_settingStored ..
      · rw [if_neg (by omega), storedTimeout, if_neg (by omega), max_eq_left (by omega)]; exact next_settingStored ..
      · rw [if_neg (by omega), storedTimeout, if_neg (by omega), max_eq_right low]; exact next_settingStored ..
  · rw [exec_settingPutUnknownItem, exec_asked asked]
    simp only [unknownItemRequest, settingValue_unknown unknown]
    exact next_reply ..
  · rw [exec_settingGet, exec_asked asked]
    refine ⟨fun unknown => ?_, ?_, ?_, ?_, ?_, ?_⟩
    · simp only [settingGetRequest, settingValue_unknown unknown]
      exact next_reply ..
    · rintro rfl
      rw [← laneEnableValue_bytes]
      exact next_reply ..
    all_goals
      rintro rfl
      exact next_reply ..

/-! ## The requests of the sweep (R169–R171) -/

/-- Settles O43: SWEEP by the states of the intake and the engine, SWEEP ABORT by that of the engine, SWEEP REPORT. -/
theorem sweepRequestsAnswered : Obligations.SweepRequestsAnswered := by
  refine ⟨fun s tag asked => ?_, fun s tag asked => ?_, fun s tag asked => ?_⟩
  · rw [exec_sweep, exec_asked asked]
    refine ⟨fun stopped => ?_, fun notStopped running => ?_, fun notStopped idle => ?_⟩
    · simp only [sweepRequest, State.isStopped_of_eq stopped]
      exact next_reply ..
    · simp only [sweepRequest, State.isStopped_of_ne notStopped, running]
      exact next_reply ..
    · simp only [sweepRequest, State.isStopped_of_ne notStopped, idle]
      exact next_reply ..
  · rw [exec_sweepAbort, exec_asked asked]
    refine ⟨fun running => ?_, fun idle => ?_⟩
    · simp only [sweepAbortRequest, endSweep, running]
      exact next_reply ..
    · simp only [sweepAbortRequest, endSweep, idle]
      exact next_reply ..
  · intro w
    rw [exec_sweepReport, exec_asked asked]
    refine (next_reply s 0x82 tag [] .ok w.bytes).trans ?_
    rcases ended : w.endReason with _ | _ | _ | _ <;> simp only [Sweep.bytes, ended] <;> rfl

end Sys2Proof.Machine
end

section
/-! PROOFS. Lanes and frame intake: the end of a lane frame (O5), the checks of a frame (O6), the taking of a frame
(O7–O9), HOLD, RESUME and STEP (O10, O11). -/

namespace Sys2Proof.Machine

/-! ## Lane frames (R1, R2, R5, R192) -/

/-- INTAKE_OVERRUN writes the Condition Unit, the Notice Unit and, by HOLD, the intake. -/
theorem raiseT_setLane_parts (s : State) (n : Fin 4) (x : Lane) (k : Kind) (j : Subject) :
    raiseT (s.setLane n x) k j =
      (((s.setLanes (raiseT (s.setLane n x) k j).lanes).setIntake (raiseT (s.setLane n x) k j).intake).setCond
        (raiseT (s.setLane n x) k j).cond).setNotices (raiseT (s.setLane n x) k j).notices := by
  apply State.ext_fields <;> simp [State.setLane]

theorem endLaneFrame_received {s : State} {n : Fin 4} (v : Byte) (rest : List Byte) (seeing : (s.lane n).blind = false)
    (enabled : (s.lane n).enabled = true) :
    endLaneFrame n (v :: rest) s =
      offerFrame (s.setLane n { s.lane n with received := (s.lane n).received + 1 }) (assembleFrame n v rest) := by
  unfold endLaneFrame
  rw [if_neg (by simp [seeing])]
  exact if_pos enabled

/-- At 256 frames the frame is lost and INTAKE_OVERRUN raised (R5). -/
theorem offerFrame_full {s : State} {n : Fin 4} (x : Lane) (v : Byte) (rest : List Byte)
    (full : 256 ≤ s.intake.queue.length) :
    offerFrame (s.setLane n x) (assembleFrame n v rest) =
      raiseT (s.setLane n { x with lost := x.lost + 1 }) .intakeOverrun (.lane n) := by
  have lost : ¬ (s.setLane n x).intake.queue.length < Config.intakeCapacity := Nat.not_lt.mpr full
  simp only [offerFrame, if_neg lost, assembleFrame, lane_setLane_same]
  simp [State.setLane, Vec.put]

/-- Settles O5: blind to the assertion, no complete byte, a disabled lane, an enabled one by the room in the queue. -/
theorem laneFrameOutcomes : Obligations.LaneFrameOutcomes := by
  intro s n bytes high
  have worked : exec (.laneFrameEnd n bytes) s = .next (endLaneFrame n bytes s) := by
    rw [exec_laneFrameEnd, dif_pos n.isLt, event_high _ high]
  rw [worked]
  refine ⟨fun blind => ?_, fun seeing none => ?_, fun v rest seeing some => ⟨?_, ?_, ?_⟩⟩
  · simp only [endLaneFrame, blind, if_true]
  · simp only [endLaneFrame, seeing, none]
    rfl
  · intro disabled
    simp only [endLaneFrame, seeing, some, disabled]
    rfl
  · intro enabled room
    have takes : (s.setLane n { s.lane n with received := (s.lane n).received + 1 }).intake.queue.length <
      Config.intakeCapacity := room
    rw [some, endLaneFrame_received v rest seeing enabled, offerFrame, if_pos takes]
    rfl
  · intro enabled full
    rw [some, endLaneFrame_received v rest seeing enabled, offerFrame_full _ v rest full]
    refine ⟨_, rfl, rfl, ?_, ?_, ?_, ?_, ?_, ?_, raiseT_setLane_parts ..⟩ <;> simp [State.setLane, counted]

/-! ## The checks of a frame (R14, R15, R20) -/

theorem checkForm_thirteen (n : Fin 4) (v b0 b1 b2 b3 q0 q1 fl d0 d1 bat res c0 c1 : Byte) :
    checkForm ⟨n, v, [b0, b1, b2, b3, q0, q1, fl, d0, d1, bat, res, c0, c1], false⟩ =
      if crc16 [b0, b1, b2, b3, q0, q1, fl, d0, d1, bat, res] ≠ c0 ++ c1 then .error .crcBad
      else if fl &&& 7#8 = 0#8 ∧ res = 0#8 ∧ ((d0 ++ d1).toNat ≤ 400 ∨ (d0 ++ d1).toNat = 4095) ∧ bat.toNat ≤ 100 ∧
          b0 ++ b1 ++ b2 ++ b3 ≠ 0#32 ∧ b0 ++ b1 ++ b2 ++ b3 ≠ 0xFFFFFFFF#32 then
        .ok ⟨b0 ++ b1 ++ b2 ++ b3, q0 ++ q1, if fl.getLsbD 7 then .glass else .litter, fl.getLsbD 6, fl.getLsbD 5,
          fl.getLsbD 4, fl.getLsbD 3, (d0 ++ d1).toNat, bat.toNat⟩
      else .error .formBad := by
  simp only [checkForm, BitVec.ofNat_toNat, BitVec.setWidth_eq, word32_eq_append, num16_eq_append, mod_eight,
    Config.noEcho]

/-- A frame of another length than 13, or an overlong one, has no bytes to check. -/
theorem checkForm_formBad {f : LaneFrame} (h : f.overlong = true ∨ f.bytes.length ≠ 13) :
    checkForm f = .error .formBad := by
  unfold checkForm
  split
  · rename_i short thirteen
    simp [short, thirteen] at h
  · rfl

section Sequence

variable {r : BinRecord} {q last : Word16}

theorem checkSeq_unseen (h : r.state = .unseen) : checkSeq r q = .pass := if_pos h

theorem checkSeq_seen (seen : r.state ≠ .unseen) (hl : r.lastSeq = some last) :
    checkSeq r q = if q = 0#16 then .pass
      else if (q - last).toNat = 0 ∨ 32768 ≤ (q - last).toNat then .stale
      else if (q - last).toNat = 1 then .pass else .gap := by
  simp only [checkSeq, if_neg seen, hl]

end Sequence

/-- Settles O6: the form's checks by length, CRC and fields; the sequence check by the distance from the last one. -/
theorem frameChecksFollowTheRules : Obligations.FrameChecksFollowTheRules := by
  refine ⟨fun f => checkForm_formBad, ?_, fun r q last => ⟨checkSeq_unseen, fun seen hl => ?_⟩⟩
  · intro n v b0 b1 b2 b3 q0 q1 fl d0 d1 bat res c0 c1 f id good crc
    have form := checkForm_thirteen n v b0 b1 b2 b3 q0 q1 fl d0 d1 bat res c0 c1
    refine ⟨fun bad => ?_, fun same bad => ?_, fun same isGood => ?_⟩
    · exact form.trans (if_pos bad)
    · exact form.trans ((if_neg (not_not.mpr same)).trans (if_neg bad))
    · exact form.trans ((if_neg (not_not.mpr same)).trans (if_pos isGood))
  · rw [checkSeq_seen seen hl]
    refine ⟨fun zero => ?_, fun nonzero same => ?_, fun nonzero behind => ?_, fun nonzero next => ?_,
      fun nonzero two ahead => ?_⟩
    · rw [if_pos zero]
    · rw [if_neg nonzero, if_pos (Or.inl same)]
    · rw [if_neg nonzero, if_pos (Or.inr behind)]
    · rw [if_neg nonzero, if_neg (by omega), if_pos next]
    · rw [if_neg nonzero, if_neg (by omega), if_neg (by omega)]

/-! ## Taking a frame (R6, R16–R21) -/

section Take

variable {s : State} {f : LaneFrame} {rest : List LaneFrame} {x : SensorFrame} {i : Nat} {r : BinRecord} {k : Kind}

theorem exec_frameTake_mayTake (may : MayTake s) (queue : s.intake.queue = f :: rest) :
    exec .frameTake s = .next (takeFrame s f) := by
  obtain ⟨high, run, free, -, notRestarting, -, -⟩ := may
  rw [exec_frameTake, event_high _ high, takeHead, if_pos ⟨run, free, notRestarting⟩]
  simp only [queue]

theorem takeFrame_formError (form : checkForm f = .error k) : takeFrame s f = refuseFrame s f k (.lane f.lane) := by
  simp only [takeFrame, form]

theorem inWindow_iff : s.intake.window.any (WindowEntry.holds x.binId x.seq) = true ↔ InWindow s x := by
  simp [InWindow, WindowEntry.holds]

/-- A frame whose pair the window does not hold is remembered there and looked up (R17, R19). -/
theorem takeFrame_new (form : checkForm f = .ok x) (new : ¬ InWindow s x) :
    takeFrame s f = lookupClaim (remembered s x) f x := by
  simp only [takeFrame, form, if_neg (mt inWindow_iff.mp new)]
  rfl

theorem countCopy_first {id : Word32} {seq : Word16} {before after : List WindowEntry} {e : WindowEntry}
    (holds : e.binId = id ∧ e.seq = seq) (first : ∀ y ∈ before, ¬ (y.binId = id ∧ y.seq = seq)) :
    countCopy id seq (before ++ e :: after) =
      before ++ { e with copies := if e.copies = 255#8 then 255#8 else e.copies + 1 } :: after := by
  induction before with
  | nil =>
    simp only [List.nil_append, countCopy, WindowEntry.holds, holds, decide_true, Bool.and_self, if_true, satInc8]
    split <;> simp_all
  | cons y before ih =>
    have other : y.holds id seq = false := by
      have := first y (List.mem_cons_self ..)
      simpa [WindowEntry.holds] using this
    simp only [List.cons_append, countCopy, other, Bool.false_eq_true, if_false]
    rw [ih fun z mem => first z (List.mem_cons_of_mem _ mem)]

/-- A frame whose pair the window holds is a duplicate; the pair's copies are counted (R17). -/
theorem takeFrame_again {before after : List WindowEntry} {e : WindowEntry} (form : checkForm f = .ok x)
    (window : s.intake.window = before ++ e :: after) (binId : e.binId = x.binId) (seq : e.seq = x.seq)
    (first : ∀ y ∈ before, ¬ (y.binId = x.binId ∧ y.seq = x.seq)) :
    takeFrame s f = refuseFrame (s.setIntake { s.intake with
      window := before ++ { e with copies := if e.copies = 255#8 then 255#8 else e.copies + 1 } :: after }) f
      .duplicate (.bin x.binId) := by
  have held : InWindow s x := ⟨e, by simp [window], binId, seq⟩
  simp only [takeFrame, form, if_pos (inWindow_iff.mpr held)]
  rw [window, countCopy_first ⟨binId, seq⟩ first]

theorem lookupClaim_notFound (found : lookup s.table x.binId = .notFound) :
    lookupClaim s f x = refuseFrame s f .noBin (.bin x.binId) := by simp only [lookupClaim, found]

theorem lookupClaim_error (found : lookup s.table x.binId = .error i) :
    lookupClaim s f x = endFrame (storeError s i) f.lane appliedOutcome := by simp only [lookupClaim, found]

theorem lookupClaim_kindClash (found : lookup s.table x.binId = .found i r) (clash : x.kind ≠ r.kind) :
    lookupClaim s f x = refuseFrame s f .kindClash (.bin x.binId) := by
  simp only [lookupClaim, found, if_pos clash]

theorem lookupClaim_stale (found : lookup s.table x.binId = .found i r) (same : x.kind = r.kind)
    (stale : checkSeq r x.seq = .stale) : lookupClaim s f x = refuseFrame s f .staleSeq (.bin x.binId) := by
  simp only [lookupClaim, found, if_neg (not_not.mpr same), stale]

theorem lookupClaim_accepts (found : lookup s.table x.binId = .found i r) (same : x.kind = r.kind)
    (fresh : checkSeq r x.seq ≠ .stale) : lookupClaim s f x = s.setIntake { s.intake with
      inFlight := some ⟨f, x, s.time.tick, s.time.epoch, i, decide (checkSeq r x.seq = .gap), false⟩ } := by
  simp only [lookupClaim, found, if_neg (not_not.mpr same)]
  cases check : checkSeq r x.seq
  · rfl
  · rfl
  · exact absurd check fresh

/-- A refused frame's condition is disposed of, then its processing ends (R21). -/
theorem refuseFrame_spelled (s : State) (f : LaneFrame) (k : Kind) (j : Subject) :
    refuseFrame s f k j = frameOver (allDisposedOf s f [(k, j)]) f.lane (byte k.idx.val) := by
  rw [refuseFrame, disposeFrame_spelled, endFrame_spelled]

/-- A frame refused in RUN with nothing waiting on its end, under RECORD, is only counted. -/
theorem refuseFrame_record (j : Subject) (may : MayTake s) (queue : s.intake.queue = f :: rest)
    (action : s.cond.action k = .record) : refuseFrame s f k j = refusedFrame s rest k := by
  obtain ⟨-, run, -, noHold, -, notHold, notStep⟩ := may
  rw [refuseFrame, disposeFrame_record f j action, endFrame_run _ _ (by simpa using run) (by simpa using noHold)
    (by simpa using notHold) (by simpa using notStep)]
  simp only [leaveQueue, countKind, setCond_intake, queue, List.tail_cons]
  rfl

/-- The same under RELAY: it is offered as a relay besides. -/
theorem refuseFrame_relay (j : Subject) (may : MayTake s) (queue : s.intake.queue = f :: rest)
    (action : s.cond.action k = .relay) : refuseFrame s f k j = (refusedFrame s rest k).setLink
      (if s.link.uplink.length + (if s.link.handler = .idle then 0 else 1) + 9 ≤ 64 then
        { s.link with uplink := s.link.uplink ++ [⟨.relay, byte f.lane.val :: f.strength :: f.bytes⟩] }
      else { s.link with relayLost := s.link.relayLost + 1 }) := by
  obtain ⟨-, run, -, noHold, -, notHold, notStep⟩ := may
  have handler : (offerRelay (countKind s k) f).link.handler = s.link.handler := by
    unfold offerRelay
    split <;> rfl
  have room := le_freePlaces s.link 9 (by decide)
  rw [refuseFrame, disposeFrame_relay f j action, endFrame_run _ _ (by simpa using run) (by simpa using noHold)
    (by rw [handler]; exact notHold) (by rw [handler]; exact notStep)]
  unfold offerRelay
  simp only [Config.relayNeeds, countKind_frame, room]
  by_cases free : s.link.uplink.length + (if s.link.handler = .idle then 0 else 1) + 9 ≤ 64
  · simp only [if_pos free, leaveQueue, countKind, setLink_intake, setCond_intake, queue, List.tail_cons]
    rfl
  · simp only [if_neg free, leaveQueue, countKind, setLink_intake, setCond_intake, queue, List.tail_cons]
    rfl

/-- Remembering a pair, or counting its copies, is nothing to the right to take a frame. -/
theorem mayTake_setWindow (window : List WindowEntry) (may : MayTake s) :
    MayTake (s.setIntake { s.intake with window := window }) := may

end Take

/-- Settles O7: the frame is new, its bin found, of its kind and its sequence not stale. -/
theorem frameTakeAccepts : Obligations.FrameTakeAccepts := by
  intro s f rest x i r may queue form new found same fresh
  rw [exec_frameTake_mayTake may queue, takeFrame_new form new,
    lookupClaim_accepts (s := remembered s x) found same fresh]
  rfl

/-- Settles O8: a refusal by the form, by the window and by each check of the lookup claim; and when nothing is
taken. -/
theorem frameTakeRefuses : Obligations.FrameTakeRefuses := by
  refine ⟨fun s f rest k may queue form action => ?_, fun s f rest x may queue form => ?_, fun s high idle => ?_⟩
  · rw [exec_frameTake_mayTake may queue, takeFrame_formError form, refuseFrame_record _ may queue action]
  · intro refused
    have worked : ∀ u, takeFrame s f = u → exec .frameTake s = .next u := fun u same => by
      rw [exec_frameTake_mayTake may queue, same]
    have mayRemembered : MayTake (remembered s x) := mayTake_setWindow _ may
    refine ⟨fun before after e window binId seq first => ?_, fun new => ?_⟩
    · have again := takeFrame_again form window binId seq first
      exact ⟨worked _ (again.trans (refuseFrame_spelled ..)),
        fun action => worked _ (again.trans (refuseFrame_record _ (mayTake_setWindow _ may) queue action))⟩
    · have claimed := takeFrame_new form new
      have looked : ∀ {l}, lookup s.table x.binId = l → lookup (remembered s x).table x.binId = l := id
      refine ⟨fun found => ?_, fun i r found clash => ?_, fun i r found same stale => ?_, fun found action => ?_,
        fun i r found clash action => ?_, fun i r found same stale action => ?_⟩
      · exact worked _ (claimed.trans ((lookupClaim_notFound (looked found)).trans (refuseFrame_spelled ..)))
      · exact worked _ (claimed.trans ((lookupClaim_kindClash (looked found) clash).trans (refuseFrame_spelled ..)))
      · exact worked _ (claimed.trans ((lookupClaim_stale (looked found) same stale).trans (refuseFrame_spelled ..)))
      · exact worked _ (claimed.trans ((lookupClaim_notFound (looked found)).trans
          (refuseFrame_record _ mayRemembered queue action)))
      · exact worked _ (claimed.trans ((lookupClaim_kindClash (looked found) clash).trans
          (refuseFrame_record _ mayRemembered queue action)))
      · exact worked _ (claimed.trans ((lookupClaim_stale (looked found) same stale).trans
          (refuseFrame_record _ mayRemembered queue action)))
  · rw [exec_frameTake, event_high _ high, takeHead]
    split
    · rename_i takes
      obtain ⟨run, free, notRestarting⟩ := takes
      rcases idle with notRun | empty | busy | ⟨tag, done, lost, restarting⟩
      · exact absurd run notRun
      · simp only [empty]
      · exact absurd free busy
      · simp [State.restarting, restarting] at notRestarting
    · rfl

/-- Settles O9: NO_BIN under RELAY. -/
theorem unknownBinIsRelayed : Obligations.UnknownBinIsRelayed := by
  intro s f rest x may queue form new found action
  have mayRemembered : MayTake (remembered s x) := mayTake_setWindow _ may
  rw [exec_frameTake_mayTake may queue, takeFrame_new form new,
    lookupClaim_notFound (s := remembered s x) found,
    refuseFrame_relay _ mayRemembered queue action]
  rfl

/-! ## HOLD and RESUME (R8, R9) -/

/-- Settles O10: HOLD and RESUME by the intake state, HOLD in RUN by the frame in flight. -/
theorem holdAndResume : Obligations.HoldAndResume := by
  refine ⟨fun s tag asked => ?_, fun s tag asked => ?_⟩
  · rw [exec_hold, exec_asked asked]
    refine ⟨fun run free => ?_, fun run busy => ?_, fun c held => ?_, fun stopped => ?_⟩
    · simp only [holdRequest, run]
      rw [if_neg (by simp [free]), holdNow_spelled]
      exact next_reply ..
    · simp only [holdRequest, run, Option.isSome_iff_ne_none.mpr busy, if_true]
    · simp only [holdRequest, held]
      exact next_reply ..
    · simp only [holdRequest, stopped]
      exact next_reply ..
  · rw [exec_resume, exec_asked asked]
    refine ⟨fun c held => ?_, fun run => ?_, fun stopped => ?_⟩
    · simp only [resumeRequest, held]
      exact next_reply ..
    · simp only [resumeRequest, run]
      exact next_reply ..
    · simp only [resumeRequest, stopped]
      exact next_reply ..

/-! ## STEP (R10) -/

section Step

variable {s : State} {tag : Word16} {c : Cause} {f : LaneFrame} {rest : List LaneFrame} {k : Kind} {i : Nat}

/-- The head frame is taken with the request waiting on its end. -/
theorem exec_step_held (asked : Asked s 0x12 tag []) (held : s.intake.state = .held c)
    (queue : s.intake.queue = f :: rest) :
    exec .step s = .next (takeFrame (s.setLink { s.link with handler := .stepWaiting tag }) f) := by
  rw [exec_step, exec_asked asked]
  simp only [stepRequest, held, queue]

/-- A stepped frame refused under RECORD: intake is HELD with cause STEP, and the request answered. -/
theorem frameOver_step_record (outcome : Byte) (lane : Fin 4) (held : s.intake.state = .held c)
    (queue : s.intake.queue = f :: rest) (noHold : s.intake.holdWaiting = none) :
    frameOver ((s.setLink { s.link with handler := .stepWaiting tag }).setCond (counted s.cond k)) lane outcome =
      answeredWith (((refusedFrame s rest k).setIntake
        { (refusedFrame s rest k).intake with state := .held .step }).setNotices
        (if s.notices.held.set = true then { s.notices with heldCause := some .step } else s.notices))
        0x12 tag 0 ([byte lane.val] ++ be32 (s.intake.taken + 1).toNat ++ [outcome]) := by
  simp only [frameOver, setCond_link, setLink_link, setCond_intake, setLink_intake, held, noHold, queue,
    List.tail_cons]
  rfl

/-- A frame whose lookup stopped the part: the STEP is answered STOPPED. -/
theorem frameOver_step_stopped (outcome : Byte) (lane : Fin 4) (stopped : s.intake.state = .stopped) :
    frameOver (s.setLink { s.link with handler := .stepWaiting tag }) lane outcome =
      answeredWith (s.setIntake { s.intake with
        queue := s.intake.queue.tail, taken := s.intake.taken + 1, inFlight := none, holdWaiting := none })
        0x12 tag 8 [] := by
  simp only [frameOver, setLink_link, setLink_intake, stopped]
  rfl

end Step

/-- Settles O11: STEP by the intake state; in HELD by the checks of the head frame. -/
theorem stepTakesOneFrame : Obligations.StepTakesOneFrame := by
  intro s tag asked
  refine ⟨fun c f rest x i r held queue form new found same fresh => ?_,
    fun c f rest k held queue noHold form action => ?_, fun c f rest held queue => ?_, fun c held empty => ?_,
    fun run => ?_, fun stopped => ?_⟩
  · rw [exec_step_held asked held queue, takeFrame_new (s := s.setLink { s.link with handler := .stepWaiting tag }) form
      new, lookupClaim_accepts (s := remembered (s.setLink { s.link with handler := .stepWaiting tag }) x) found same fresh]
    rfl
  · have disposed : allDisposedOf (s.setLink { s.link with handler := .stepWaiting tag }) f [(k, .lane f.lane)] =
        (s.setLink { s.link with handler := .stepWaiting tag }).setCond (counted s.cond k) := by
      simp [allDisposedOf, disposedOf, action]
    rw [exec_step_held asked held queue, takeFrame_formError form, refuseFrame_spelled, disposed,
      frameOver_step_record _ _ held queue noHold]
  · intro u refused
    have worked : ∀ v, takeFrame u f = v → exec .step s = .next v := fun v same => by
      rw [exec_step_held asked held queue, same]
    refine ⟨fun k form => ?_, fun x before after e form window binId seq first => ?_, fun x form new => ?_⟩
    · exact worked _ ((takeFrame_formError form).trans (refuseFrame_spelled ..))
    · exact worked _ ((takeFrame_again (s := u) form window binId seq first).trans (refuseFrame_spelled ..))
    · have claimed : takeFrame u f = lookupClaim (remembered u x) f x := takeFrame_new form new
      have looked : ∀ {l}, lookup s.table x.binId = l → lookup (remembered u x).table x.binId = l := id
      refine ⟨fun found => ?_, fun i r found clash => ?_, fun i r found same stale => ?_, fun i found => ?_⟩
      · exact worked _ (claimed.trans ((lookupClaim_notFound (looked found)).trans (refuseFrame_spelled ..)))
      · exact worked _ (claimed.trans ((lookupClaim_kindClash (looked found) clash).trans (refuseFrame_spelled ..)))
      · exact worked _ (claimed.trans ((lookupClaim_stale (looked found) same stale).trans (refuseFrame_spelled ..)))
      · intro t
        have stopped : t.intake.state = .stopped := by simp [t]
        have queued : t.intake.queue.tail = rest := by simp [t, remembered, queue]
        have taken : t.intake.taken = s.intake.taken := by simp [t, remembered]
        have link : t.link = s.link := by simp [t, remembered]
        have failed : storeError (remembered u x) i = t.setLink { t.link with handler := .stepWaiting tag } := by
          rw [link]
          exact storeError_setLink (remembered s x) _ i
        refine worked _ (claimed.trans ((lookupClaim_error (looked found)).trans ?_))
        rw [endFrame_spelled, failed, frameOver_step_stopped _ _ stopped, queued, taken]
  · rw [exec_step, exec_asked asked]
    simp only [stepRequest, held, empty]
    exact next_reply ..
  · rw [exec_step, exec_asked asked]
    simp only [stepRequest, run]
    exact next_reply ..
  · rw [exec_step, exec_asked asked]
    simp only [stepRequest, stopped]
    exact next_reply ..

end Sys2Proof.Machine
end

section
/-! PROOFS. The Sheet Builder: where an entry is put on a side (O37), and Place, Serve and Withdraw (O36). -/

namespace Sys2Proof.Machine

/-! ## The order of a side (R104, R131) -/

/-- A carried entry stands before the first entry that may not precede it. -/
theorem insertCarried_eq (e : Entry) (l : List Entry) :
    insertCarried e l =
      (l.takeWhile fun x => !decide (e.cls.rank < x.cls.rank ∨ (e.cls.rank = x.cls.rank ∧ x.carried = false))) ++ e ::
        l.dropWhile fun x => !decide (e.cls.rank < x.cls.rank ∨ (e.cls.rank = x.cls.rank ∧ x.carried = false)) := by
  induction l with
  | nil => rfl
  | cons x l ih =>
    by_cases h : e.cls.rank < x.cls.rank ∨ (e.cls.rank = x.cls.rank ∧ x.carried = false)
    · rw [insertCarried, if_pos h, List.takeWhile_cons_of_neg (by simp [h]), List.dropWhile_cons_of_neg (by simp [h])]
      rfl
    · rw [insertCarried, if_neg h, ih, List.takeWhile_cons_of_pos (by simp [h]), List.dropWhile_cons_of_pos (by simp [h])]
      rfl

/-- What holds of an entry and, with it, of every later one, holds from the first such entry of a side on. -/
theorem inOrder_dropWhile {p : Entry → Bool} (later : ∀ x y, mayPrecede x y → p x = true → p y = true) {l : List Entry}
    (h : inOrder l) : ∀ y ∈ l.dropWhile fun x => !p x, p y = true := by
  induction l with
  | nil => simp
  | cons x l ih =>
    obtain ⟨first, rest⟩ := List.pairwise_cons.mp h
    cases hx : p x with
    | true =>
      rw [List.dropWhile_cons_of_neg (by simp [hx])]
      rintro y (_ | ⟨_, mem⟩)
      · exact hx
      · exact later x y (first y mem) hx
    | false =>
      rw [List.dropWhile_cons_of_pos (by simp [hx])]
      exact ih rest

/-- Settles O37: the side is cut before the first entry of a lower class, or before the first that a carried entry may
not follow. -/
theorem entriesKeepTheirPlaces : Obligations.EntriesKeepTheirPlaces := by
  intro e l ordered
  refine ⟨⟨_, _, (List.takeWhile_append_dropWhile ..).symm, insertPlaced_eq e l, fun x mem => ?_, fun x mem => ?_⟩,
    ⟨_, _, (List.takeWhile_append_dropWhile ..).symm, insertCarried_eq e l, fun x mem => ?_, fun x mem => ?_⟩⟩
  · simpa using List.mem_takeWhile_imp mem
  · have lower := inOrder_dropWhile (p := fun x => decide (e.cls.rank < x.cls.rank)) (fun x y before below => by
      simp only [decide_eq_true_eq, mayPrecede] at *
      omega) ordered x (by simpa only [← decide_not, Nat.not_lt] using mem)
    exact of_decide_eq_true lower
  · have notAfter := List.mem_takeWhile_imp mem
    simp only [Bool.not_eq_true', decide_eq_false_iff_not, not_or, not_and, Bool.not_eq_false] at notAfter
    obtain ⟨notLower, carried⟩ := notAfter
    rcases Nat.lt_or_ge x.cls.rank e.cls.rank with higher | notHigher
    · exact Or.inl higher
    · have same : x.cls.rank = e.cls.rank := by omega
      exact Or.inr ⟨same, carried same.symm⟩
  · have behind := inOrder_dropWhile
      (p := fun x => decide (e.cls.rank < x.cls.rank ∨ (e.cls.rank = x.cls.rank ∧ x.carried = false)))
      (fun x y before behind => by
        simp only [decide_eq_true_eq, mayPrecede] at *
        rcases before with above | ⟨same, carried⟩
        · exact Or.inl (by omega)
        · rcases behind with lower | ⟨equal, notCarried⟩
          · exact Or.inl (by omega)
          · exact Or.inr ⟨by omega, by simpa [notCarried] using carried⟩) ordered x mem
    exact (of_decide_eq_true behind).imp_right fun ⟨same, first⟩ => ⟨same.symm, first⟩

/-! ## An entry of the slot (R106) -/

section Entry

variable {i : Nat} {l before after : List Entry} {e : Entry}

/-- The first unmarked entry of a slot on a side. -/
theorem entryAt_of_any (h : l.any (Entry.unmarkedAt i) = true) : ∃ before e after, entryAt i l before e after := by
  obtain ⟨before, e, after, side, unmarked, first, -⟩ := unmarkedAt_split h
  obtain ⟨mark, slot⟩ := (unmarkedAt_iff i e).mp unmarked
  exact ⟨before, e, after, side, mark, slot, fun x mem => (unmarkedAt_false_iff i x).mp (first x mem)⟩

theorem entryAt_drop (h : entryAt i l before e after) : dropEntry i l = before ++ after := by
  obtain ⟨rfl, mark, slot, first⟩ := h
  exact dropEntry_split (fun x mem => (unmarkedAt_false_iff i x).mpr (first x mem))
    ((unmarkedAt_iff i e).mpr ⟨mark, slot⟩)

theorem entryAt_mark (m : Mark) (h : entryAt i l before e after) :
    markEntry i m l = before ++ { e with mark := m } :: after := by
  obtain ⟨rfl, mark, slot, first⟩ := h
  exact markEntry_split (fun x mem => (unmarkedAt_false_iff i x).mpr (first x mem))
    ((unmarkedAt_iff i e).mpr ⟨mark, slot⟩) m

theorem entryAt_upgrade (n : Word32) (r : BinRecord) (c : EntryClass) (h : entryAt i l before e after) :
    upgradeSide n i r c l =
      if c.rank < e.cls.rank then some (insertPlaced (e.upgrade n r c) (before ++ after)) else none := by
  obtain ⟨rfl, mark, slot, first⟩ := h
  exact upgradeSide_split (fun x mem => (unmarkedAt_false_iff i x).mpr (first x mem))
    ((unmarkedAt_iff i e).mpr ⟨mark, slot⟩) n r c

/-- An entry's upgrade, with the crossing epoch spelled out (R109). -/
theorem upgrade_spelled (n : Word32) (r : BinRecord) (c : EntryClass) (e : Entry) :
    e.upgrade n r c = ⟨e.binId, e.slot, c, e.mark, false, r.fill, n,
      if e.crossing = none then r.crossing else e.crossing⟩ := by
  unfold Entry.upgrade
  cases e.crossing <;> rfl

end Entry

theorem entryAt_of_locate {s : State} {i : Nat} {q : Fin 64} {w : Where} (h : locate s.rounds i = some (q, w)) :
    ∃ before e after,
      entryAt i (match w with | .fill => (s.round q).fill | .other => (s.round q).other) before e after := by
  have found := locate_some h
  cases w with
  | fill => exact entryAt_of_any (whereIs_fill found)
  | other => exact entryAt_of_any (whereIs_other found)

/-! ## Place (R108–R112) -/

section Place

variable {s : State} {i : Nat} {r : BinRecord} {c : EntryClass} {q u : Fin 64} {before after front : List Entry}
  {e last : Entry}

theorem place_fill (round : r.round = some q) (found : locate s.rounds i = some (u, .fill))
    (entry : entryAt i (s.round u).fill before e after) :
    place s i r c = if c.rank < e.cls.rank then
      (s.setRound u { s.round u with fill := insertPlaced (e.upgrade s.time.epoch r c) (before ++ after) }, .upgraded)
    else (s, .unchanged) := by
  simp only [place, round, found, entryAt_upgrade _ _ _ entry]
  by_cases lower : c.rank < e.cls.rank
  · simp only [if_pos lower]
  · simp only [if_neg lower]

theorem place_sealed (round : r.round = some q) (found : locate s.rounds i = some (u, .other))
    (isSealed : (s.round u).otherState = .sealed) (entry : entryAt i (s.round u).other before e after) :
    place s i r c = if c.rank < e.cls.rank then
      (s.setRound u { s.round u with other := insertPlaced (e.upgrade s.time.epoch r c) (before ++ after) }, .upgraded)
    else (s, .unchanged) := by
  have removes : (s.round u).otherState.removes = true := by rw [isSealed]; rfl
  simp only [place, round, found, removes, entryAt_upgrade _ _ _ entry]
  by_cases lower : c.rank < e.cls.rank
  · simp only [if_pos lower, if_true]
  · simp only [if_neg lower, if_true]

theorem place_read (round : r.round = some q) (found : locate s.rounds i = some (u, .other))
    (read : (s.round u).otherState = .opened ∨ (s.round u).otherState = .spent) :
    place s i r c = (s, .unchanged) := by
  have marks : ¬ (s.round u).otherState.removes = true := by rcases read with h | h <;> rw [h] <;> decide
  simp only [place, round, found, if_neg marks]

theorem place_absent (round : r.round = some q) (absent : locate s.rounds i = none) :
    place s i r c = addEntry s q i r c := by
  simp only [place, round, absent]

theorem addEntry_room (room : (s.round q).fill.length < (s.round q).cap) (free : 0 < s.free) :
    addEntry s q i r c = ((s.setRound q { s.round q with
      fill := insertPlaced (newEntry s.time.epoch i r c) (s.round q).fill }).setFree (s.free - 1), .added) := by
  simp only [addEntry, if_pos room, if_pos free]

theorem addEntry_noFree (room : (s.round q).fill.length < (s.round q).cap) (none : s.free = 0) :
    addEntry s q i r c = (s, .failed) := by
  simp only [addEntry, if_pos room, none, Nat.lt_irrefl, if_false]

theorem addEntry_full (full : (s.round q).cap ≤ (s.round q).fill.length) (side : (s.round q).fill = front ++ [last])
    (notLower : last.cls.rank ≤ c.rank) : addEntry s q i r c = (s, .failed) := by
  have isLast : (s.round q).fill.getLast? = some last := by rw [side]; simp
  have keeps : ¬ last.cls.lower c = true := by simp [EntryClass.lower, notLower]
  simp only [addEntry, if_neg (Nat.not_lt.mpr full), isLast, if_neg keeps]

theorem addEntry_displaces (full : (s.round q).cap ≤ (s.round q).fill.length)
    (side : (s.round q).fill = front ++ [last]) (lower : c.rank < last.cls.rank) :
    addEntry s q i r c = ((claimUnplaced (s.setRound q { s.round q with
      fill := insertPlaced (newEntry s.time.epoch i r c) front, displaced := satInc16 (s.round q).displaced })
      last.slot).1, .added) := by
  have isLast : (s.round q).fill.getLast? = some last := by rw [side]; simp
  have rest : (s.round q).fill.dropLast = front := by rw [side]; simp
  have goes : last.cls.lower c = true := by simpa [EntryClass.lower] using lower
  simp only [addEntry, if_neg (Nat.not_lt.mpr full), isLast, if_pos goes, rest]

end Place

/-! ## Serve and Withdraw (R113, R114) -/

section Detach

variable {s : State} {i : Nat} {u : Fin 64} {before after : List Entry} {e : Entry}

theorem detach_noEntry (m : Mark) (none : noEntry s i) : detach s i m = s := by
  simp only [detach, (locate_none_iff s i).mpr none]

theorem detach_fill (m : Mark) (found : locate s.rounds i = some (u, .fill))
    (entry : entryAt i (s.round u).fill before e after) :
    detach s i m = (s.setRound u { s.round u with fill := before ++ after }).setFree (s.free + 1) := by
  simp only [detach, found, entryAt_drop entry]

theorem detach_sealed (m : Mark) (found : locate s.rounds i = some (u, .other))
    (isSealed : (s.round u).otherState = .sealed) (entry : entryAt i (s.round u).other before e after) :
    detach s i m = (s.setRound u { s.round u with other := before ++ after }).setFree (s.free + 1) := by
  have removes : (s.round u).otherState.removes = true := by rw [isSealed]; rfl
  simp only [detach, found, if_pos removes, entryAt_drop entry]

theorem detach_read (m : Mark) (found : locate s.rounds i = some (u, .other))
    (read : (s.round u).otherState = .opened ∨ (s.round u).otherState = .spent)
    (entry : entryAt i (s.round u).other before e after) :
    detach s i m = s.setRound u { s.round u with other := before ++ { e with mark := m } :: after } := by
  have marks : ¬ (s.round u).otherState.removes = true := by rcases read with h | h <;> rw [h] <;> decide
  simp only [detach, found, if_neg marks, entryAt_mark m entry]

end Detach

/-- Settles O36: Place by where the bin's entry stands, and with none by the room on the FILL side; Serve and Withdraw
by where the entry stands. -/
theorem placeFollowsTheRules : Obligations.PlaceFollowsTheRules := by
  refine ⟨fun s i => ⟨locate_none_iff s i, fun q w found => entryAt_of_locate found⟩, fun s i r c => ⟨?_, ?_, ?_⟩,
    fun s i m => ⟨detach_noEntry m, fun u before e after => detach_fill m, fun u before e after found entry =>
      ⟨fun isSealed => detach_sealed m found isSealed entry, fun read => detach_read m found read entry⟩⟩⟩
  · intro none
    simp only [place, none]
  · intro q u before e after round upgraded
    have isUpgraded : e.upgrade s.time.epoch r c = upgraded := upgrade_spelled ..
    refine ⟨fun found entry => ⟨fun lower => ?_, fun notLower => ?_⟩,
      fun found isSealed entry => ⟨fun lower => ?_, fun notLower => ?_⟩, fun found read => place_read round found read⟩
    · rw [place_fill round found entry, if_pos lower, isUpgraded, insertPlaced_eq]
      rfl
    · rw [place_fill round found entry, if_neg (Nat.not_lt.mpr notLower)]
    · rw [place_sealed round found isSealed entry, if_pos lower, isUpgraded, insertPlaced_eq]
      rfl
    · rw [place_sealed round found isSealed entry, if_neg (Nat.not_lt.mpr notLower)]
  · intro q round absent x e
    have put : ∀ l, insertPlaced (newEntry s.time.epoch i r c) l = withEntry e l := insertPlaced_eq e
    rw [place_absent round absent]
    refine ⟨fun room free => ?_, addEntry_noFree, fun front last full side => ⟨addEntry_full full side,
      fun y lower live => ?_, fun y d lower live bad => ?_⟩⟩
    · rw [addEntry_room room free, put]
    · rw [addEntry_displaces full side lower, put, claimUnplaced_good (s := s.setRound q _) live]
      rfl
    · rw [addEntry_displaces full side lower, put, claimUnplaced_bad (s := s.setRound q _) live bad]

end Sys2Proof.Machine
end

section
/-! PROOFS. The Bin Table: lookup and insertion scan (O14), BIN PUT (O15, O16), BIN GET (O17), BIN DROP (O18), TABLE
READ (O19) and a failed check code (O20). -/

namespace Sys2Proof.Machine

/-! ## Lookup and insertion scan (R27, R28) -/

section Lookup

variable {t : BinTable} {b : Word32}

theorem lookupFrom_passes {d : Nat} (n : Nat) (h : passesOver t b d) :
    lookupFrom t b (n + 1) d = lookupFrom t b n (d + 1) := by
  rcases h with tombstone | damaged | ⟨r, live, other⟩
  · simp only [lookupFrom, tombstone]
  · simp only [lookupFrom, damaged]
  · rw [lookupFrom]
    simp only [live, ne_eq, not_true_eq_false, if_false, if_neg other]

/-- Lookup goes on past the slots it passes over, up to the end of the window. -/
theorem lookup_passes {d : Nat} (inWindow : d ≤ 24) (h : ∀ d' < d, passesOver t b d') :
    lookup t b = lookupFrom t b (24 - d) d := by
  induction d with
  | zero => rfl
  | succ d ih =>
    have more : 24 - d = 24 - (d + 1) + 1 := by omega
    rw [ih (by omega) fun d' below => h d' (by omega), more, lookupFrom_passes _ (h d (by omega))]

/-- The slot is no place for a new record: LIVE or DAMAGED. -/
theorem usableFrom_taken {d : Nat} (n : Nat) (h : (t.get (probeSlot (home b) d)).isLive = true ∨
    t.get (probeSlot (home b) d) = .damaged) : usableFrom t b (n + 1) d = usableFrom t b n (d + 1) := by
  rcases h with live | damaged
  · rw [usableFrom]
    split <;> rename_i slot <;> simp_all [Slot.isLive]
  · simp only [usableFrom, damaged]

theorem usableSlot_taken {d : Nat} (inWindow : d ≤ 24) (h : ∀ d' < d,
    (t.get (probeSlot (home b) d')).isLive = true ∨ t.get (probeSlot (home b) d') = .damaged) :
    usableSlot t b = usableFrom t b (24 - d) d := by
  induction d with
  | zero => rfl
  | succ d ih =>
    have more : 24 - d = 24 - (d + 1) + 1 := by omega
    rw [ih (by omega) fun d' below => h d' (by omega), more, usableFrom_taken _ (h d (by omega))]

end Lookup

/-- Settles O14: lookup and the scan each reach the slot at distance `d` and end there as it says, or pass the whole
window. -/
theorem lookupFollowsProbeWindow : Obligations.LookupFollowsProbeWindow := by
  intro t b
  have more : ∀ {d : Nat}, d < 24 → 24 - d = (23 - d) + 1 := fun below => by omega
  refine ⟨fun d below passes => ?_, fun passes => lookup_passes (Nat.le_refl 24) passes, fun d below taken usable => ?_,
    fun taken => usableSlot_taken (Nat.le_refl 24) taken⟩
  · rw [lookup_passes below.le passes, more below, lookupFrom]
    refine ⟨fun r live same => ?_, fun r c live bad => ?_, fun empty => ?_⟩
    · simp only [live, ne_eq, not_true_eq_false, if_false, if_pos same]
    · simp only [live, ne_eq, bad, not_false_eq_true, if_true]
    · simp only [empty]
  · rw [usableSlot_taken below.le taken, more below, usableFrom]
    rcases usable with empty | tombstone
    · simp only [empty]
    · simp only [tombstone]

/-! ## The operands of the table requests (R35–R37) -/

section Operands

variable {a b c d kind round profile reset : Byte} {k : BinKind} {q : Option (Fin 64)} {p : Fin 16}

theorem binId?_of_valid (notZero : a ++ b ++ c ++ d ≠ 0#32) (notOnes : a ++ b ++ c ++ d ≠ 0xFFFFFFFF#32) :
    binId? a b c d = some (a ++ b ++ c ++ d) := by
  rw [binId?, word32_eq_append, if_neg (not_or.mpr ⟨notZero, notOnes⟩)]

theorem binId?_of_invalid (h : a ++ b ++ c ++ d = 0#32 ∨ a ++ b ++ c ++ d = 0xFFFFFFFF#32) : binId? a b c d = none := by
  rw [binId?, word32_eq_append, if_pos h]

theorem binKind?_code (k : BinKind) : binKind? k.code = some k := by cases k <;> decide

theorem binKind?_of_lt (h : 1 < kind.toNat) : binKind? kind = none := by
  have notZero : kind ≠ 0#8 := by rintro rfl; exact absurd h (by decide)
  have notOne : kind ≠ 1#8 := by rintro rfl; exact absurd h (by decide)
  simp [binKind?, notZero, notOne]

theorem roundOrNone?_indexByte (q : Option (Fin 64)) : roundOrNone? (indexByte q) = some q := by
  cases q with
  | none => rfl
  | some q =>
    have number : q.val = (byte q.val).toNat := by
      have := q.isLt
      simp only [byte, BitVec.toNat_ofNat]
      omega
    have notNone : byte q.val ≠ 0xFF#8 := by
      intro h
      rw [h] at number
      have := q.isLt
      simp at number
      omega
    rw [indexByte, roundOrNone?, if_neg notNone, index?_of_eq number]
    rfl

theorem roundOrNone?_of_lt (h : 63 < round.toNat) (notNone : round ≠ 255#8) : roundOrNone? round = none := by
  rw [roundOrNone?, if_neg notNone, index?_of_le h]
  rfl

theorem index?_byte (p : Fin 16) : index? 16 (byte p.val) = some p :=
  index?_of_eq (by have := p.isLt; simp only [byte, BitVec.toNat_ofNat]; omega)

theorem binPutOperands_good (notZero : a ++ b ++ c ++ d ≠ 0#32) (notOnes : a ++ b ++ c ++ d ≠ 0xFFFFFFFF#32)
    (isReset : reset.toNat ≤ 1) : binPutOperands a b c d k.code (indexByte q) (byte p.val) reset =
      some ⟨a ++ b ++ c ++ d, k, q, p, decide (reset = 1#8)⟩ := by
  simp only [binPutOperands, binId?_of_valid notZero notOnes, binKind?_code, roundOrNone?_indexByte, index?_byte,
    yesNo?_of_le isReset]

/-- One operand out of range and the whole is refused. -/
theorem binPutOperands_bad (h : a ++ b ++ c ++ d = 0#32 ∨ a ++ b ++ c ++ d = 0xFFFFFFFF#32 ∨ 1 < kind.toNat ∨
    (63 < round.toNat ∧ round ≠ 255#8) ∨ 15 < profile.toNat ∨ 1 < reset.toNat) :
    binPutOperands a b c d kind round profile reset = none := by
  unfold binPutOperands
  split
  · rename_i id k q p y hId hKind hRound hProfile hReset
    rcases h with zero | ones | kindOut | ⟨roundOut, notNone⟩ | profileOut | resetOut
    · rw [binId?_of_invalid (Or.inl zero)] at hId; cases hId
    · rw [binId?_of_invalid (Or.inr ones)] at hId; cases hId
    · rw [binKind?_of_lt kindOut] at hKind; cases hKind
    · rw [roundOrNone?_of_lt roundOut notNone] at hRound; cases hRound
    · rw [index?_of_le profileOut] at hProfile; cases hProfile
    · rw [yesNo?_of_lt resetOut] at hReset; cases hReset
  · rfl

end Operands

/-! ## BIN PUT (R32–R35) -/

section BinPut

variable {s : State} {tag : Word16} {operands : List Byte} {between : List SheetEvent} {o : BinPut} {i : Nat}
  {x : BinRecord}

/-- A BIN PUT in hand whose operands are in range is the claim. -/
theorem exec_binPut_asked {a b c d kind round profile reset : Byte}
    (asked : Asked s 0x20 tag [a, b, c, d, kind, round, profile, reset]) (running : s.intake.state ≠ .stopped)
    (good : binPutOperands a b c d kind round profile reset = some o) :
    exec (.binPut between) s =
      .next (putBin s ⟨0x20, tag, [a, b, c, d, kind, round, profile, reset]⟩ o between) := by
  rw [exec_binPut, exec_asked asked]
  simp only [binPutRequest, State.isStopped_of_ne running, good]
  rfl

/-- The update that stops the part is not made, and answered STOPPED (R35). -/
theorem updateRequest_stopped {j : Nat} (r : Request)
    (stopped : (updateBin s i x o between).1.intake.state = .stopped)
    (latest : (updateBin s i x o between).1.cond.latestSlot = some j) :
    updateRequest s r i x o between = reply (storeError (between.foldl takeSheetEvent s) j) r .stopped [] := by
  simp only [updateRequest, State.failedSlot, State.isStopped_of_eq stopped, if_true, latest]

theorem updateRequest_running (r : Request) (running : (updateBin s i x o between).1.intake.state ≠ .stopped) :
    updateRequest s r i x o between =
      reply (let t := (updateBin s i x o between).1.writeRecord i (updateBin s i x o between).2.1
        if (updateBin s i x o between).2.2 then raiseT t .placeFail (.bin x.binId) else t) r .ok
        (binPutData i 2 (updateBin s i x o between).2.1.placement) := by
  simp only [updateRequest, State.failedSlot, State.isStopped_of_ne running, Bool.false_eq_true, if_false]

theorem updateBin_sameRound (same : o.round = x.round) :
    updateBin s i x o between = (s, reconfigure x o, false) := if_pos same

theorem placeMoved_nowhere (h : x.round = none ∨ moveClass (Vec.get s.profiles x.profile) x = none) :
    placeMoved s i x = (s, x, false) := by
  unfold placeMoved
  split
  · rename_i q c round cls
    rcases h with none | none
    · rw [none] at round; cases round
    · rw [none] at cls; cases cls
  · rfl

theorem placeMoved_somewhere {e : EntryClass} (somewhere : x.round ≠ none)
    (cls : moveClass (Vec.get s.profiles x.profile) x = some e) :
    placeMoved s i x = ((place s i x e).1, { x with placement := (place s i x e).2.placement x.placement },
      decide ((place s i x e).2 = .failed)) := by
  obtain ⟨q, isSome⟩ := Option.ne_none_iff_exists'.mp somewhere
  simp only [placeMoved, isSome, cls]

theorem reconfigure_moved (moved : o.round ≠ x.round) :
    reconfigure x o = { x with kind := o.kind, round := o.round, profile := o.profile, placement := .none } := by
  rw [reconfigure, if_neg moved]

/-- The profiles stand during the events between a move's Withdraw and its Place. -/
theorem profiles_between (m : Mark) : (between.foldl takeSheetEvent (detach s i m)).profiles = s.profiles := by simp

/-- The bin is withdrawn from its old round; it has no class in the new one. -/
theorem updateBin_unplaced (moved : o.round ≠ x.round)
    (nowhere : o.round = none ∨ moveClass (Vec.get s.profiles o.profile) x = none) :
    updateBin s i x o between =
      (between.foldl takeSheetEvent (detach s i .withdrawn), reconfigure x o, false) := by
  rw [updateBin, if_neg moved]
  refine placeMoved_nowhere ?_
  rw [profiles_between]
  exact nowhere

/-- The bin is withdrawn from its old round and placed in the new one. -/
theorem updateBin_placed {e : EntryClass} (moved : o.round ≠ x.round) (somewhere : o.round ≠ none)
    (cls : moveClass (Vec.get s.profiles o.profile) x = some e) :
    updateBin s i x o between =
      let done := place (between.foldl takeSheetEvent (detach s i .withdrawn)) i (reconfigure x o) e
      (done.1, { reconfigure x o with placement := done.2.placement (reconfigure x o).placement },
        decide (done.2 = .failed)) := by
  rw [updateBin, if_neg moved]
  refine placeMoved_somewhere (x := reconfigure x o) somewhere ?_
  rw [profiles_between]
  exact cls

/-- The class that a move's Place asks for, as the statement names the states that call for it (R33). -/
theorem moveClass_eq_some {p : Profile} {e : EntryClass} :
    moveClass p x = some e ↔ (x.state = .urgent ∧ e = .urgent) ∨ (x.state = .due ∧ e = .due) ∨
      (x.state ≠ .urgent ∧ x.state ≠ .due ∧ x.silent = true ∧ p.checkOnSilence = true ∧ e = .check) := by
  unfold moveClass
  cases x.state <;> cases x.silent <;> cases p.checkOnSilence <;> cases e <;> simp

end BinPut

/-- Settles O15: BIN PUT in STOPPED, on operands out of range, and by where the insertion scan ends; and a lookup that
meets a failed check code. -/
theorem binPutInsertsRecord : Obligations.BinPutInsertsRecord := by
  intro s tag a b c d kind round profile reset between asked
  refine ⟨fun stopped => ?_, fun running bad => ?_, ?_, ?_⟩
  · rw [exec_binPut, exec_asked asked]
    simp only [binPutRequest, State.isStopped_of_eq stopped]
    exact next_reply ..
  · rw [exec_binPut, exec_asked asked]
    simp only [binPutRequest, State.isStopped_of_ne running, binPutOperands_bad bad]
    exact next_reply ..
  · rintro k q p running notZero notOnes rfl rfl rfl isReset absent
    have worked := exec_binPut_asked (between := between) asked running (binPutOperands_good notZero notOnes isReset)
    rw [worked]
    refine ⟨fun i usable => ?_, fun full => ?_⟩
    · simp only [putBin, absent, insertBin, usable]
      exact next_reply ..
    · simp only [putBin, absent, insertBin, full]
      exact next_reply ..
  · rintro k q p i running notZero notOnes rfl rfl rfl isReset failed
    have worked := exec_binPut_asked (between := between) asked running (binPutOperands_good notZero notOnes isReset)
    rw [worked]
    simp only [putBin, failed]
    exact next_reply ..

/-- Settles O16: BIN PUT on a found record, in the same round, in a new one without and with a Place, and with reset;
and the events of the clocks, each taken by a command of its own. -/
theorem binPutChangesRecord : Obligations.BinPutChangesRecord := by
  refine ⟨fun s tag a b c d k q p i r between running notZero notOnes found => ?_, fun u high => ⟨fun n below => ?_,
    fun n below => ?_⟩⟩
  · intro moved calls freed u
    refine ⟨fun asked => ?_, fun asked => ?_⟩
    · have worked := exec_binPut_asked (between := between) asked running
        (binPutOperands_good (reset := 0) notZero notOnes (by decide))
      simp only [putBin, found] at worked
      change exec (.binPut between) s = .next (updateRequest s _ i r ⟨_, k, q, p, false⟩ between) at worked
      have uRunning : u.intake.state ≠ .stopped := by simpa [u, freed] using running
      have uTable : u.table = s.table := by simp [u, freed]
      refine ⟨fun same => ?_, fun newRound notCalled => ?_, fun e newRound isRound called => ?_⟩
      · have updated := updateBin_sameRound (s := s) (i := i) (between := between) (o := ⟨a ++ b ++ c ++ d, k, q, p, false⟩)
          (x := r) same
        rw [worked, updateRequest_running _ (by rw [updated]; exact running), updated]
        subst same
        simp only [reconfigure, if_true, Bool.false_eq_true, if_false]
        exact next_reply ..
      · have noClass : q = none ∨ moveClass (Vec.get s.profiles p) r = none :=
          notCalled.imp_right fun none => Option.eq_none_iff_forall_ne_some.mpr fun e isClass =>
            none e (moveClass_eq_some.mp isClass)
        have updated := updateBin_unplaced (s := s) (i := i) (between := between)
          (o := ⟨a ++ b ++ c ++ d, k, q, p, false⟩) newRound noClass
        rw [worked, updateRequest_running _ (by rw [updated]; exact uRunning), updated]
        simp only [reconfigure_moved (o := ⟨a ++ b ++ c ++ d, k, q, p, false⟩) newRound, Bool.false_eq_true, if_false]
        rw [← uTable]
        exact next_reply ..
      · intro t
        have updated := updateBin_placed (s := s) (i := i) (between := between)
          (o := ⟨a ++ b ++ c ++ d, k, q, p, false⟩) newRound isRound (moveClass_eq_some.mpr called)
        rw [reconfigure_moved (o := ⟨a ++ b ++ c ++ d, k, q, p, false⟩) newRound] at updated
        change _ = (t, { moved with placement := (place u i moved e).2.placement .none },
          decide ((place u i moved e).2 = .failed)) at updated
        have stops : ∀ {j}, t.intake.state = .stopped → t.cond.latestSlot = some j → exec (.binPut between) s =
            .next (answeredWith (storeError (between.foldl takeSheetEvent s) j) 0x20 tag 8 []) := by
          intro j stopped latest
          rw [worked, updateRequest_stopped _ (by rw [updated]; exact stopped) (by rw [updated]; exact latest)]
          exact next_reply ..
        refine ⟨fun notStopped added => ?_, fun notStopped failed => ?_, fun stopped => ?_,
          fun z front last y n isZ none full side lower live bad => ?_⟩
        · rw [worked, updateRequest_running _ (by rw [updated]; exact notStopped), updated]
          simp only [added, PlaceOutcome.placement, reduceCtorEq, decide_false, Bool.false_eq_true, if_false]
          exact next_reply ..
        · rw [worked, updateRequest_running _ (by rw [updated]; exact notStopped), updated]
          simp only [failed, PlaceOutcome.placement, decide_true, if_true]
          exact next_reply ..
        · obtain ⟨j, latest⟩ := place_stops uRunning stopped
          exact ⟨j, latest, stops stopped latest⟩
        · have absent := (locate_none_iff u i).mpr none
          have placed : place u i moved e = (storeError (u.setRound z { u.round z with
              fill := insertPlaced (newEntry u.time.epoch i moved e) front,
              displaced := satInc16 (u.round z).displaced }) last.slot, .added) := by
            rw [place_absent (show moved.round = some z from isZ) absent, addEntry_displaces full side lower,
              claimUnplaced_bad (s := u.setRound z _) live bad]
          exact stops (by simp [t, placed]) (by simp [t, placed])
    · have worked := exec_binPut_asked (between := between) asked running
        (binPutOperands_good (reset := 1) notZero notOnes (by decide))
      simp only [putBin, found] at worked
      rw [worked]
      refine (next_reply ..).trans ?_
      have sameTable : (detach s i .withdrawn).table = s.table := by simp
      rw [State.writeRecord, sameTable]
      rfl
  · rw [exec_cutoffEvent, dif_pos below, event_high _ high, takeSheetEvent, dif_pos below]
  · rw [exec_drawTimerExpiry, dif_pos below, event_high _ high, takeSheetEvent, dif_pos below]

/-! ## BIN GET (R36, R190) -/

/-- The flags of a byte are its bits. -/
theorem testBit_flags (l : List Bool) (j : Nat) :
    (l.foldr (fun (b : Bool) (n : Nat) => (if b then 1 else 0) + 2 * n) 0).testBit j = l.getD j false := by
  induction l generalizing j with
  | nil => simp
  | cons b l ih =>
    cases j with
    | zero => cases b <;> simp [Nat.testBit_zero]
    | succ j =>
      rw [List.foldr_cons, Nat.testBit_add_one, List.getD_cons_succ, ← ih]
      congr 1
      split <;> omega

theorem bits_getLsbD (l : List Bool) {j : Nat} (h : j < 8) : (bits l).getLsbD j = l.getD j false := by
  rw [bits, byte, BitVec.getLsbD_ofNat, testBit_flags]
  simp [h]

/-- Settles O17: BIN GET by the ID's range and by where the lookup ends; the codes, bits and absent values. -/
theorem binGetReturnsRecord : Obligations.BinGetReturnsRecord := by
  refine ⟨fun s tag a b c d asked => ⟨fun invalid => ?_, fun notZero notOnes => ?_⟩, by decide, fun r => rfl,
    fun l j => bits_getLsbD l, rfl, fun q => rfl, rfl, fun e => rfl⟩
  · rw [exec_binGet, exec_asked asked]
    simp only [binGetRequest, binId?_of_invalid invalid]
    exact next_reply ..
  · have worked : exec .binGet s = .next (getBin s ⟨0x21, tag, [a, b, c, d]⟩ (a ++ b ++ c ++ d)) := by
      rw [exec_binGet, exec_asked asked]
      simp only [binGetRequest, binId?_of_valid notZero notOnes]
    rw [worked]
    refine ⟨fun absent => ?_, fun i r found => ?_, fun i failed => ?_⟩
    · simp only [getBin, absent]
      exact next_reply ..
    · obtain ⟨-, -, isId⟩ := lookup_found found
      have idBytes : be32 (a ++ b ++ c ++ d).toNat = [a, b, c, d] := by rw [← word32_eq_append, be32_word32]
      simp only [getBin, found]
      refine (next_reply ..).trans ?_
      simp only [BinRecord.bytes, isId, idBytes, probeDistance, Config.slotCount]
      simp [ResultCode.byte, BinRecord.flagsByte]
    · simp only [getBin, failed]
      exact next_reply ..

/-! ## BIN DROP (R37, R39) -/

/-- Settles O18: BIN DROP in STOPPED, by the ID's range and by where the lookup ends. -/
theorem binDropDeletesRecord : Obligations.BinDropDeletesRecord := by
  intro s tag a b c d asked
  refine ⟨fun stopped => ?_, fun running => ⟨fun invalid => ?_, fun notZero notOnes => ?_⟩⟩
  · rw [exec_binDrop, exec_asked asked]
    simp only [binDropRequest, State.isStopped_of_eq stopped]
    exact next_reply ..
  · rw [exec_binDrop, exec_asked asked]
    simp only [binDropRequest, State.isStopped_of_ne running, binId?_of_invalid invalid]
    exact next_reply ..
  · have worked : exec .binDrop s = .next (dropBin s ⟨0x22, tag, [a, b, c, d]⟩ (a ++ b ++ c ++ d)) := by
      rw [exec_binDrop, exec_asked asked]
      simp only [binDropRequest, State.isStopped_of_ne running, binId?_of_valid notZero notOnes]
      rfl
    rw [worked]
    refine ⟨fun absent => ?_, fun i failed => ?_, fun i r found => ?_⟩
    · simp only [dropBin, absent]
      exact next_reply ..
    · simp only [dropBin, failed]
      exact next_reply ..
    · have kept : (detach s i .withdrawn).table = s.table ∧ (detach s i .withdrawn).intake = s.intake := by simp
      simp only [dropBin, found, dropSlot, markDropped, setTable_intake, kept]
      exact next_reply ..

/-! ## TABLE READ (R31) -/

section TableRead

variable {s : State} {start : Nat}

/-- The first failing slot of the 64 from the start. -/
theorem find_failing {n : Nat} {r : BinRecord} {c : Word16} (inRange : n < 64)
    (live : s.table.get ((start + n) % 8192) = .live r c) (bad : c ≠ 0)
    (first : ∀ n' < n, ∀ r' c', s.table.get ((start + n') % 8192) = .live r' c' → c' = 0) :
    ((readRange start).find? fun i => (s.table.get i).fails) = some ((start + n) % 8192) := by
  have found : (List.range 64).find? ((fun i => (s.table.get i).fails) ∘ probeSlot start) = some n := by
    rw [List.find?_range_eq_some]
    refine ⟨?_, List.mem_range.mpr inRange, fun j below => ?_⟩
    · simpa [probeSlot, Config.slotCount, live, Slot.fails] using bad
    · have fine := first j below
      simp only [Function.comp, probeSlot, Config.slotCount]
      cases slot : s.table.get ((start + j) % 8192) with
      | live r' c' => simp [Slot.fails, fine r' c' slot]
      | _ => rfl
  rw [readRange, List.find?_map, found]
  rfl

theorem find_verified (h : ∀ n < 64, ∀ r c, s.table.get ((start + n) % 8192) = .live r c → c = 0) :
    ((readRange start).find? fun i => (s.table.get i).fails) = none := by
  rw [List.find?_eq_none]
  intro i mem
  obtain ⟨n, inRange, rfl⟩ := List.mem_map.mp mem
  have fine := h n (List.mem_range.mp inRange)
  simp only [probeSlot, Config.slotCount]
  cases slot : s.table.get ((start + n) % 8192) with
  | live r c => simp [Slot.fails, fine r c slot]
  | _ => simp [Slot.fails]

end TableRead

/-- Settles O19: TABLE READ by the start's range, and by the first failing slot of the 64. -/
theorem tableReadReturnsSlots : Obligations.TableReadReturnsSlots := by
  intro s tag h l asked
  rw [exec_tableRead, exec_asked asked]
  simp only [tableReadRequest, ← num16_eq_append]
  refine ⟨fun outOfRange => ?_, fun inRange => ⟨fun n r c below live bad first => ?_, fun verified => ?_⟩⟩
  · rw [if_pos outOfRange]
    exact next_reply ..
  · rw [if_neg (Nat.not_lt.mpr inRange), find_failing below live bad first]
    exact next_reply ..
  · rw [if_neg (Nat.not_lt.mpr inRange), find_verified verified]
    refine (next_reply ..).trans ?_
    have slots : (readRange (num16 h l)).flatMap (fun i => Slot.bytes i (s.table.get i)) =
        (List.range 64).flatMap fun n =>
          Slot.bytes ((num16 h l + n) % 8192) (s.table.get ((num16 h l + n) % 8192)) := by
      rw [readRange, List.flatMap_map]
      rfl
    rw [slots]
    congr 3
    refine List.flatMap_congr fun n _ => ?_
    cases s.table.get ((num16 h l + n) % 8192) <;> rfl

/-! ## A failed check code (R24, R75) -/

/-- What a Withdraw does to the sheets depends on the rounds and the free slots alone. -/
theorem entryWithdrawn_congr {s s' t : State} {i : Nat} (rounds : s'.rounds = s.rounds) (free : s'.free = s.free)
    (h : entryWithdrawn s' t i) : entryWithdrawn s t i := by
  simpa only [entryWithdrawn, noEntry, State.round, rounds, free] using h

theorem storeError_parts (s : State) (i : Nat) : sameButStop s (storeError s i) := by
  apply State.ext_fields <;> simp [storeError]

theorem storeError_stoppedBy {s : State} {i : Nat} (high : s.rstLow = false) (wf : s.table.wf) :
    stoppedBy s (storeError s i) i := by
  refine ⟨?_, fun j other => ?_, storeError_cond s i, storeError_intake s i, ?_, storeError_sweep s i, ?_, ?_,
    storeError_parts s i⟩
  · rw [storeError_table, BinTable.get_put_same _ _ _ wf]
  · rw [storeError_table, BinTable.get_put_of_ne _ _ other]
  · simp [State.stopPin, State.isStopped, storeError, high]
  · rw [storeError_notices, raiseStopped_spelled]
  · exact entryWithdrawn_congr (by simp) (by simp) (detach_withdrawn _ i)

/-- A frame whose lookup stopped the part ends at once; no HOLD or STEP waits on it. -/
theorem frameOver_stopped {s : State} (lane : Fin 4) (outcome : Byte) (stopped : s.intake.state = .stopped)
    (notHold : ∀ tag, s.link.handler ≠ .holdWaiting tag) (notStep : ∀ tag, s.link.handler ≠ .stepWaiting tag) :
    frameOver s lane outcome = s.setIntake { s.intake with
      queue := s.intake.queue.tail, taken := s.intake.taken + 1, inFlight := none, holdWaiting := none } := by
  unfold frameOver
  cases handler : s.link.handler with
  | holdWaiting tag => exact absurd handler (notHold tag)
  | stepWaiting tag => exact absurd handler (notStep tag)
  | _ => simp only [stopped]

/-- Settles O20: the stop itself, and the end of a frame whose lookup finds it. -/
theorem storageErrorStopsPart : Obligations.StorageErrorStopsPart := by
  refine ⟨fun s i high wf _ => storeError_stoppedBy high wf, fun s f rest x i may queue form new failed => ?_⟩
  obtain ⟨-, -, -, -, -, notHold, notStep⟩ := id may
  refine ⟨_, (exec_frameTake_mayTake may queue).trans (congrArg _ ((takeFrame_new form new).trans
    ((lookupClaim_error (s := remembered s x) failed).trans ((endFrame_spelled ..).trans
      (frameOver_stopped _ _ (by simp) (by simpa [remembered] using notHold)
        (by simpa [remembered] using notStep)))))), ?_⟩
  simp [remembered, queue]

end Sys2Proof.Machine
end

section
/-! PROOFS. The evaluation of a reading (O22): what steps 9 to 13 do in each of their five ways, and step 14 after them. -/

namespace Sys2Proof.Machine

/-! ## Steps 9 to 13 (R48–R54, R60) -/

section Reading

variable {p : Profile} {x : InFlight} {y : Reading} {f : Nat} {e : Word32}

theorem checkOverflow_fields (p : Profile) (e : Word32) (f : Nat) (y : Reading) :
    sameParticulars (checkOverflow p e f y).bin y.bin ∧ sameMarks (checkOverflow p e f y).bin y.bin ∧
    (checkOverflow p e f y).bin.placement = y.bin.placement ∧ (checkOverflow p e f y).bin.fill = y.bin.fill ∧
    (checkOverflow p e f y).bin.applied = y.bin.applied ∧ (checkOverflow p e f y).bin.refused = y.bin.refused ∧
    (checkOverflow p e f y).clearedSilent = y.clearedSilent ∧ (checkOverflow p e f y).blankedRead = y.blankedRead ∧
    (checkOverflow p e f y).stepJump = y.stepJump := by
  obtain ⟨particulars, marks, placement, fill, applied, refused, -⟩ := makeUrgent_fields e y.bin
  rw [checkOverflow_eq]
  split
  · exact ⟨particulars, marks, placement, fill, applied, refused, rfl, rfl, rfl⟩
  · simp [sameParticulars, sameMarks]

theorem checkOverflow_over (h : p.overflow ≤ f) : (checkOverflow p e f y).bin.state = .urgent ∧
    (checkOverflow p e f y).overfill = true ∧ (checkOverflow p e f y).bin.crossing =
      if y.bin.state = .urgent then y.bin.crossing else if y.bin.crossing.isSome then y.bin.crossing else some e := by
  obtain ⟨-, -, -, -, -, -, urgent⟩ := makeUrgent_fields e y.bin
  rw [checkOverflow_eq, if_pos h]
  exact ⟨urgent, rfl, makeUrgent_crossing e y.bin⟩

theorem checkOverflow_below (h : f < p.overflow) : checkOverflow p e f y = y := by
  rw [checkOverflow_eq, if_neg (Nat.not_le.mpr h)]

/-- The step check refuses a jump from a stored fill in the states that hold one (R52). -/
theorem stepRefuses_iff (p : Profile) (r : BinRecord) (f : Nat) :
    stepRefuses p r f = true ↔ (r.state = .normal ∨ r.state = .due ∨ r.state = .urgent) ∧
      ∃ g, r.fill = some g ∧ p.maxStep < (if g ≤ f then f - g else g - f) := by
  have distance : ∀ g, max f g - min f g = if g ≤ f then f - g else g - f := by intro g; split <;> omega
  unfold stepRefuses
  cases state : r.state <;> cases fill : r.fill <;> simp [distance]

/-- The blanking has not expired: the blank-until epoch is ahead of the arrival epoch (R49). -/
theorem blankingExpired_eq_false (arrival until' : Word32) :
    blankingExpired arrival until' = false ↔ 2147483648 ≤ (arrival - until').toNat := by
  rw [blankingExpired, decide_eq_false_iff_not, Nat.not_lt]

/-- What steps 9 to 13 never write, and the placement without a LIFT. -/
theorem evaluateReading_fields (p : Profile) (x : InFlight) (y : Reading) :
    sameParticulars (evaluateReading p x y).bin y.bin ∧ sameMarks (evaluateReading p x y).bin y.bin ∧
    (evaluateReading p x y).clearedSilent = y.clearedSilent ∧
    (x.sensor.lift = false → (evaluateReading p x y).bin.placement = y.bin.placement) := by
  unfold evaluateReading
  split
  · rename_i lift
    simp [liftRecord, sameParticulars, sameMarks, lift]
  · split
    · simp [refuseReading, sameParticulars, sameMarks]
    · split
      · split <;> simp [sameParticulars, sameMarks]
      · split
        · simp [refuseReading, sameParticulars, sameMarks]
        · obtain ⟨particulars, marks, placement, -, -, -, cleared, -⟩ := checkOverflow_fields p x.arrivalEpoch
            (fillOf p x.sensor.distance) (evaluateFill p x.arrivalEpoch (fillOf p x.sensor.distance) y)
          obtain ⟨particulars', marks', placement', -, -, -, cleared', -⟩ := evaluateFill_fields p x.arrivalEpoch
            (fillOf p x.sensor.distance) y
          unfold sameParticulars sameMarks at *
          refine ⟨?_, ?_, cleared.trans cleared', fun _ => placement.trans placement'⟩
          · simp only [particulars, particulars', and_self]
          · simp only [marks, marks', and_self]

/-- A crossing epoch that a DUE or URGENT record holds stands while the fill is not below the clear threshold. -/
theorem evaluateReading_crossing_kept (state : y.bin.state = .due ∨ y.bin.state = .urgent) (isSome : y.bin.crossing.isSome)
    (noLift : x.sensor.lift = false) (notCleared : p.clear ≤ fillOf p x.sensor.distance) :
    (evaluateReading p x y).bin.crossing = y.bin.crossing := by
  have notBlanked : y.bin.state ≠ .blanked := by rcases state with h | h <;> rw [h] <;> decide
  have seen : y.bin.state ≠ .unseen := by rcases state with h | h <;> rw [h] <;> decide
  unfold evaluateReading
  rw [if_neg (by simp [noLift]), if_neg (by simp [notBlanked])]
  split
  · rfl
  · split
    · rfl
    · have filled : (evaluateFill p x.arrivalEpoch (fillOf p x.sensor.distance) y).bin.crossing = y.bin.crossing := by
        rw [(evaluateFill_state ..).2]
        rcases state with due | urgent
        · simp [due, Nat.not_lt.mpr notCleared]
        · simp [urgent]
      rcases Nat.lt_or_ge (fillOf p x.sensor.distance) p.overflow with below | above
      · rw [checkOverflow_below below, filled]
      · rw [(checkOverflow_over above).2.2, filled]
        split <;> rfl

/-- A record without a crossing epoch that becomes DUE or URGENT captures the arrival epoch. -/
theorem evaluateReading_crossing_new (notDue : y.bin.state ≠ .due) (notUrgent : y.bin.state ≠ .urgent)
    (becomes : (evaluateReading p x y).bin.state = .due ∨
      (evaluateReading p x y).bin.state = .urgent) :
    (evaluateReading p x y).bin.crossing = some x.arrivalEpoch := by
  rcases evaluateReading_cases p x y with h | h | h | h | h <;> rw [h] at becomes ⊢
  · simp [liftRecord] at becomes
  · simp [refuseReading, notDue, notUrgent] at becomes
  · revert becomes
    split <;> simp [notDue, notUrgent]
  · simp [refuseReading, notDue, notUrgent] at becomes
  · obtain ⟨state, crossing⟩ := evaluateFill_state p x.arrivalEpoch (fillOf p x.sensor.distance) y
    rw [if_neg notUrgent, if_neg notDue] at state crossing
    rcases Nat.lt_or_ge (fillOf p x.sensor.distance) p.overflow with below | above
    · rw [checkOverflow_below below] at becomes ⊢
      rw [state] at becomes
      rw [crossing]
      split at becomes
      · rename_i raised; rw [if_pos raised]
      · simp at becomes
    · rw [(checkOverflow_over above).2.2, state, crossing]
      split <;> simp

/-- A record that no reading makes DUE or URGENT and that stays without a crossing epoch. -/
theorem evaluateReading_crossing_none (notDue : y.bin.state ≠ .due) (notUrgent : y.bin.state ≠ .urgent)
    (none : y.bin.crossing = none) (stays : (evaluateReading p x y).bin.state ≠ .due)
    (stays' : (evaluateReading p x y).bin.state ≠ .urgent) : (evaluateReading p x y).bin.crossing = .none := by
  rcases evaluateReading_cases p x y with h | h | h | h | h <;> rw [h] at stays stays' ⊢
  · rfl
  · exact none
  · split <;> exact none
  · exact none
  · obtain ⟨state, crossing⟩ := evaluateFill_state p x.arrivalEpoch (fillOf p x.sensor.distance) y
    rw [if_neg notUrgent, if_neg notDue] at state crossing
    rcases Nat.lt_or_ge (fillOf p x.sensor.distance) p.overflow with below | above
    · rw [checkOverflow_below below] at stays ⊢
      rw [crossing]
      split
      · rename_i raised; rw [state, if_pos raised] at stays; exact absurd rfl stays
      · rfl
    · exact absurd (checkOverflow_over above).1 stays'

end Reading

/-! ## The whole evaluation -/

section Evaluate

variable {p : Profile} {x : InFlight} {r : BinRecord}

theorem sameParticulars.trans {a b c : BinRecord} (h : sameParticulars a b) (h' : sameParticulars b c) :
    sameParticulars a c := by
  obtain ⟨binId, kind, round, profile, seq, heard, lane, signal, battery, silent⟩ := h
  obtain ⟨binId', kind', round', profile', seq', heard', lane', signal', battery', silent'⟩ := h'
  exact ⟨binId.trans binId', kind.trans kind', round.trans round', profile.trans profile', seq.trans seq',
    heard.trans heard', lane.trans lane', signal.trans signal', battery.trans battery', silent.trans silent'⟩

/-- No event on a profile that makes events urgent. -/
theorem quiet_iff : ¬ ((x.sensor.heat = true ∨ x.sensor.tamper = true) ∧ p.eventsUrgent = true) ↔
    ((x.sensor.heat || x.sensor.tamper) && p.eventsUrgent) = false := by
  cases x.sensor.heat <;> cases x.sensor.tamper <;> cases p.eventsUrgent <;> decide

/-- Settles O22: step 14 keeps what steps 9 to 13 give but for the marks and, on an urgent event, the state. -/
theorem readingEvaluation : Obligations.ReadingEvaluation := by
  intro p x r y quiet fill jump blanked jumps applies
  have isY : y = applyEvents p x (evaluateReading p x (writeParticulars x r)) := rfl
  have quietly : quiet → _ := fun h => applyEvents_quiet p x (evaluateReading p x (writeParticulars x r)) (quiet_iff.mp h)
  have loudly : ¬ quiet → _ := fun h => applyEvents_urgent p x (evaluateReading p x (writeParticulars x r))
    (by simpa using mt quiet_iff.mpr h)
  have fields := applyEvents_fields p x (evaluateReading p x (writeParticulars x r))
  rw [← isY] at fields quietly loudly
  obtain ⟨last, placed, filled, applied, refused, heat, tamper, battery, cleared, isBlanked, jumped, above, -⟩ :=
    fields
  obtain ⟨particulars, ⟨heat', tamper', battery'⟩, cleared', placement⟩ :=
    evaluateReading_fields p x (writeParticulars x r)
  obtain ⟨binId, kind, round, profile, seq, heard, lane, signal, charge, silent⟩ := last.trans particulars
  have notBlanked : ¬ blanked → ¬ ((writeParticulars x r).bin.state = .blanked ∧ blankingExpired x.arrivalEpoch
      ((writeParticulars x r).bin.blankUntil.getD x.arrivalEpoch) = false) := fun h hb =>
    h ⟨hb.1, (blankingExpired_eq_false ..).mp hb.2⟩
  have refusesJump : stepRefuses p (writeParticulars x r).bin fill = true ↔ jumps := stepRefuses_iff ..
  refine ⟨⟨seq, heard, lane, signal, charge, silent, cleared.trans cleared'⟩, ⟨binId, kind, round, profile⟩,
    ⟨by rw [heat, heat']; rfl, by rw [tamper, tamper']; rfl, by rw [battery, battery']; rfl⟩, fun lift => ?_,
    fun noLift => placed.trans (placement noLift), fun noLift isWithin => ?_, fun noLift expired noEcho => ?_,
    fun noLift expired echo isJump => ?_, fun ⟨noLift, expired, echo, noJump⟩ => ?_, fun loud => (loudly loud).1,
    fun state isSome noLift notCleared => ?_, fun notDue notUrgent none becomes => ?_⟩
  · rw [evaluateReading_lift lift] at filled applied refused placed isBlanked jumped above quietly
    exact ⟨filled, applied, refused, placed, isBlanked, jumped, above, fun h =>
      ⟨(quietly h).1, (quietly h).2.1, (quietly h).2.2⟩⟩
  · have reading := evaluateReading_blanked (p := p) (y := writeParticulars x r) noLift isWithin.1
      ((blankingExpired_eq_false x.arrivalEpoch (r.blankUntil.getD x.arrivalEpoch)).mpr isWithin.2)
    rw [reading] at filled applied refused isBlanked quietly
    exact ⟨isBlanked, filled, applied, refused, fun h => ⟨(quietly h).1.trans isWithin.1, (quietly h).2.2⟩⟩
  · rw [evaluateReading_noEcho noLift (notBlanked expired) noEcho] at filled applied refused jumped quietly
    by_cases unseen : r.state = .unseen
    · rw [if_pos (show (writeParticulars x r).bin.state = .unseen from unseen)] at filled applied refused quietly
      exact ⟨filled, applied, refused, jumped, fun h => (quietly h).1.trans (if_pos unseen).symm⟩
    · rw [if_neg (show ¬ (writeParticulars x r).bin.state = .unseen from unseen)] at filled applied refused quietly
      exact ⟨filled, applied, refused, jumped, fun h => (quietly h).1.trans (if_neg unseen).symm⟩
  · have reading := evaluateReading_jump noLift (notBlanked expired) echo (refusesJump.mpr isJump)
    rw [reading] at filled applied refused jumped quietly
    exact ⟨jumped, filled, applied, refused, fun h => (quietly h).1⟩
  · have reading := evaluateReading_applied noLift (notBlanked expired) echo
      (Bool.eq_false_iff.mpr (mt refusesJump.mp noJump))
    rw [reading] at filled applied refused isBlanked jumped above quietly loudly
    obtain ⟨-, -, -, filled', applied', refused', -, isBlanked', jumped'⟩ := checkOverflow_fields p x.arrivalEpoch fill
      (evaluateFill p x.arrivalEpoch fill (writeParticulars x r))
    obtain ⟨-, -, -, newFill, newApplied, newRefused, -, notBlankedRead, notJumped, notOver⟩ :=
      evaluateFill_fields p x.arrivalEpoch fill (writeParticulars x r)
    obtain ⟨state, crossing⟩ := evaluateFill_state p x.arrivalEpoch fill (writeParticulars x r)
    refine ⟨filled.trans (filled'.trans newFill), applied.trans (applied'.trans newApplied),
      refused.trans (refused'.trans newRefused), isBlanked.trans (isBlanked'.trans notBlankedRead),
      jumped.trans (jumped'.trans notJumped), ?_, fun normal => ?_, fun full => ?_, fun h below => ?_⟩
    · rw [above]
      rcases Nat.lt_or_ge fill p.overflow with below | full
      · rw [checkOverflow_below below, notOver]
        simp [writeParticulars, below]
      · rw [(checkOverflow_over full).2.1]
        simp [full]
    · by_cases h : quiet
      · obtain ⟨sameState, sameCrossing, -⟩ := quietly h
        rw [sameCrossing]
        rw [sameState] at normal
        rcases Nat.lt_or_ge fill p.overflow with below | full
        · rw [checkOverflow_below below] at normal ⊢
          rw [crossing]
          rw [state] at normal
          by_cases urgent : (writeParticulars x r).bin.state = .urgent
          · simp [urgent] at normal
          · rw [if_neg urgent] at normal ⊢
            split at normal <;> split at normal <;> simp_all
        · rw [(checkOverflow_over full).1] at normal
          cases normal
      · rw [(loudly h).1] at normal
        cases normal
    · by_cases h : quiet
      · exact (quietly h).1.trans (checkOverflow_over full).1
      · exact (loudly h).1
    · rw [checkOverflow_below below] at quietly
      exact (quietly h).1.trans state
  · have kept := evaluateReading_crossing_kept (p := p) (y := writeParticulars x r) state isSome noLift notCleared
    by_cases h : quiet
    · exact (quietly h).2.1.trans kept
    · refine (loudly h).2.trans ?_
      rw [kept]
      split
      · rfl
      · exact if_pos isSome
  · by_cases h : quiet
    · obtain ⟨sameState, sameCrossing, -⟩ := quietly h
      rw [sameState] at becomes
      exact sameCrossing.trans (evaluateReading_crossing_new notDue notUrgent becomes)
    · refine (loudly h).2.trans ?_
      by_cases calls : (evaluateReading p x (writeParticulars x r)).bin.state = .due ∨
          (evaluateReading p x (writeParticulars x r)).bin.state = .urgent
      · rw [evaluateReading_crossing_new notDue notUrgent calls]
        split <;> rfl
      · obtain ⟨stays, stays'⟩ := not_or.mp calls
        rw [evaluateReading_crossing_none notDue notUrgent none stays stays', if_neg stays']
        rfl

end Evaluate

end Sys2Proof.Machine
end

section
/-! PROOFS. APPLY_CLAIM (O23): what step 15 asks of the Sheet Builder, the end of the frame, what falls between the two
operations, and the claims that end before step 8. -/

namespace Sys2Proof.Machine

/-! ## The bin leaves DUE (R53, R57) -/

section LeftDue

variable {p : Profile} {x : InFlight} {r : BinRecord} {y : Reading}

theorem evaluateFill_leftDue (p : Profile) (e : Word32) (f : Nat) (notYet : y.leftDue = false) :
    (evaluateFill p e f y).leftDue = true ↔ y.bin.state = .due ∧ f < p.clear := by
  unfold evaluateFill
  dsimp only
  split
  · rename_i urgent
    simp [notYet, urgent]
  · rename_i due
    split <;> rename_i below <;> simp [notYet, due, below]
  · rename_i notUrgent notDue
    have isNotDue : y.bin.state ≠ .due := notDue
    split <;> simp [notYet, isNotDue]

theorem checkOverflow_leftDue (p : Profile) (e : Word32) (f : Nat) (y : Reading) :
    (checkOverflow p e f y).leftDue = y.leftDue := by
  rw [checkOverflow_eq]
  split <;> rfl

/-- A reading that leaves its bin neither DUE nor URGENT has taken it out of DUE, if it was DUE and no LIFT came. -/
theorem evaluateReading_leftDue (notYet : y.leftDue = false) (notDue : (evaluateReading p x y).bin.state ≠ .due)
    (notUrgent : (evaluateReading p x y).bin.state ≠ .urgent) :
    (evaluateReading p x y).leftDue = true ↔ y.bin.state = .due ∧ x.sensor.lift = false := by
  by_cases lift : x.sensor.lift = true
  · rw [evaluateReading_lift lift]
    simp [notYet, lift]
  · have noLift : x.sensor.lift = false := by simpa using lift
    unfold evaluateReading at *
    rw [if_neg lift] at *
    split at notDue
    · rename_i blanked
      rw [if_pos blanked]
      simp [notYet, blanked.1]
    · rename_i expired
      rw [if_neg expired] at *
      split at notDue
      · rename_i noEcho
        rw [if_pos noEcho]
        have stays : y.bin.state ≠ .due := by
          intro due
          rw [if_neg (by rw [due]; decide)] at notDue
          exact notDue due
        simp [notYet, stays]
      · rename_i echo
        rw [if_neg echo] at *
        split at notDue
        · rename_i jump
          rw [if_pos jump]
          have stays : y.bin.state ≠ .due := notDue
          simp [notYet, stays]
        · rename_i fills
          rw [if_neg fills] at *
          rw [checkOverflow_leftDue, evaluateFill_leftDue _ _ _ notYet]
          have below : fillOf p x.sensor.distance < p.overflow := by
            by_contra above
            exact notUrgent (checkOverflow_over (Nat.not_lt.mp above)).1
          rw [checkOverflow_below below, (evaluateFill_state ..).1] at notDue
          refine and_congr_right fun due => ?_
          rw [if_neg (by rw [due]; decide), if_pos due] at notDue
          simp only [noLift, iff_true]
          by_contra kept
          rw [if_neg kept] at notDue
          exact notDue rfl

/-- The final state is that of step 14 only where an event made it URGENT. -/
theorem applyEvents_state {y : Reading} (notUrgent : (applyEvents p x y).bin.state ≠ .urgent) :
    (applyEvents p x y).bin.state = y.bin.state := by
  cases event : (x.sensor.heat || x.sensor.tamper) && p.eventsUrgent with
  | false => exact (applyEvents_quiet p x y event).1
  | true => exact absurd (applyEvents_urgent p x y event).1 notUrgent

/-- In a final state that calls for no Place, a Withdraw is asked when the bin left DUE without a LIFT or was Silent
(R57). -/
theorem evaluate_withdraws (notDue : (evaluate p x r).bin.state ≠ .due) (notUrgent : (evaluate p x r).bin.state ≠ .urgent) :
    ((evaluate p x r).leftDue || (evaluate p x r).clearedSilent) = true ↔
      (r.state = .due ∧ x.sensor.lift = false) ∨ r.silent = true := by
  obtain ⟨-, -, -, -, -, -, -, -, cleared, -, -, -, left⟩ :=
    applyEvents_fields p x (evaluateReading p x (writeParticulars x r))
  obtain ⟨-, -, cleared', -⟩ := evaluateReading_fields p x (writeParticulars x r)
  have sameState := applyEvents_state notUrgent
  have leaves := evaluateReading_leftDue (p := p) (x := x) (y := writeParticulars x r) rfl
    (fun due => notDue (sameState.trans due)) (fun urgent => notUrgent (sameState.trans urgent))
  have isLeft : (evaluate p x r).leftDue = (evaluateReading p x (writeParticulars x r)).leftDue := left
  have isCleared : (evaluate p x r).clearedSilent = r.silent := cleared.trans cleared'
  rw [Bool.or_eq_true, isLeft, isCleared, leaves]
  rfl

theorem sheetRequest_due {y : Reading} (h : y.bin.state = .due) : y.sheetRequest = .place .due := by
  simp only [Reading.sheetRequest, h]

theorem sheetRequest_urgent {y : Reading} (h : y.bin.state = .urgent) : y.sheetRequest = .place .urgent := by
  simp only [Reading.sheetRequest, h]

theorem sheetRequest_else {y : Reading} (notDue : y.bin.state ≠ .due) (notUrgent : y.bin.state ≠ .urgent) :
    y.sheetRequest = if y.leftDue || y.clearedSilent then .withdraw else .nothing := by
  unfold Reading.sheetRequest
  split
  · contradiction
  · contradiction
  · rfl

end LeftDue

/-! ## The end of the frame (R47, R59, R61) -/

section Claim

variable {s : State} {x : InFlight} {r : BinRecord} {between : List Between}

/-- An applied frame's conditions are those of its kinds, each with the bin as subject. -/
theorem conditionsOf_eq (x : InFlight) (y : Reading) (failed : Bool) :
    conditionsOf x y failed = (conditionKinds x y failed).map fun k => (k, .bin x.sensor.binId) := by
  unfold conditionsOf conditionKinds
  cases y.blankedRead <;> cases y.stepJump <;> cases x.gap <;> cases x.sensor.heat <;> cases x.sensor.tamper <;>
    cases x.sensor.lowBattery <;> cases y.overfill <;> cases failed <;> rfl

theorem exec_applyClaim_inFlight (high : s.rstLow = false) (taken : s.intake.inFlight = some x) :
    exec (.applyClaim between) s = .next (applyInFlight s x between) := by
  rw [exec_applyClaim, event_high _ high]
  simp only [applyClaim, taken]

theorem applyInFlight_record (kept : x.dropped = false) (live : s.table.get x.slot = .live r 0) :
    applyInFlight s x between = applyRecord s x r between := by
  simp only [applyInFlight, live, kept]
  rfl

/-- The end of the frame after the sheets' request has left `t`, with the placement it writes. -/
theorem applyRecord_ends {u : State} {y : Reading} {t : State} {placement : Placement} {failed : Bool}
    (isY : evaluate (Vec.get s.profiles r.profile) x r = y)
    (isU : between.foldl takeBetween (if x.sensor.lift then detach s x.slot .served else s) = u)
    (request : makeSheetRequest u x.slot y.bin y.sheetRequest = (t, { y.bin with placement := placement }, failed)) :
    applyRecord s x r between =
      if u.intake.state ≠ .stopped ∧ t.intake.state = .stopped then
        frameOverThenStopped (allDisposedOf (t.setTable (t.table.put x.slot (.live { y.bin with placement := placement } 0)))
          x.frame ((conditionKinds x y failed).map fun k => (k, .bin x.sensor.binId)))
      else
        frameOver (allDisposedOf (t.setTable (t.table.put x.slot (.live { y.bin with placement := placement } 0)))
          x.frame ((conditionKinds x y failed).map fun k => (k, .bin x.sensor.binId))) x.frame.lane 0xFF := by
  simp only [applyRecord, isY, isU, request, conditionsOf_eq]
  have stopsHere : (t.isStopped && !u.isStopped) = true ↔ u.intake.state ≠ .stopped ∧ t.intake.state = .stopped := by
    simp [State.isStopped, and_comm]
  by_cases stops : u.intake.state ≠ .stopped ∧ t.intake.state = .stopped
  · have stopped : (disposeFrame (t.writeRecord x.slot { y.bin with placement := placement }) x.frame
        ((conditionKinds x y failed).map fun k => (k, .bin x.sensor.binId))).intake.state = .stopped := by
      obtain ⟨-, -, -, -, -, -, state⟩ := disposeFrame_intake (t.writeRecord x.slot { y.bin with placement := placement })
        x.frame ((conditionKinds x y failed).map fun k => (k, .bin x.sensor.binId))
      exact state.trans stops.2
    rw [if_pos (stopsHere.mpr stops), if_pos stops, endFrameThenStop_spelled stopped, disposeFrame_spelled]
    rfl
  · rw [if_neg (mt stopsHere.mp stops), if_neg stops, endFrame_spelled, disposeFrame_spelled]
    rfl

/-- With no condition and nothing waiting on it, the frame's end leaves intake as it is but for the queue. -/
theorem frameOver_quiet {t : State} (lane : Fin 4) (outcome : Byte) (noHold : t.intake.holdWaiting = none)
    (notWaiting : ∀ tag, t.link.handler ≠ .holdWaiting tag ∧ t.link.handler ≠ .stepWaiting tag) :
    frameOver t lane outcome = t.setIntake { t.intake with
      queue := t.intake.queue.tail, taken := t.intake.taken + 1, inFlight := none } := by
  have left : t.setIntake { t.intake with
      queue := t.intake.queue.tail, taken := t.intake.taken + 1, inFlight := none, holdWaiting := none } =
    t.setIntake { t.intake with queue := t.intake.queue.tail, taken := t.intake.taken + 1, inFlight := none } := by
    rw [← noHold]
  unfold frameOver
  rw [left]
  cases handler : t.link.handler with
  | holdWaiting tag => exact absurd handler (notWaiting tag).1
  | stepWaiting tag => exact absurd handler (notWaiting tag).2
  | _ => cases state : t.intake.state <;> simp only [noHold]

theorem frameOverThenStopped_quiet {t : State} (stopped : t.intake.state = .stopped) (noHold : t.intake.holdWaiting = none)
    (notWaiting : ∀ tag, t.link.handler ≠ .holdWaiting tag ∧ t.link.handler ≠ .stepWaiting tag) :
    frameOverThenStopped t = t.setIntake { t.intake with
      queue := t.intake.queue.tail, taken := t.intake.taken + 1, inFlight := none } := by
  have left : t.setIntake { t.intake with
      state := .stopped, queue := t.intake.queue.tail, taken := t.intake.taken + 1, inFlight := none,
      holdWaiting := none } =
    t.setIntake { t.intake with queue := t.intake.queue.tail, taken := t.intake.taken + 1, inFlight := none } := by
    rw [← noHold, ← stopped]
  unfold frameOverThenStopped
  rw [left]
  cases handler : t.link.handler with
  | holdWaiting tag => exact absurd handler (notWaiting tag).1
  | stepWaiting tag => exact absurd handler (notWaiting tag).2
  | _ => simp only [noHold]

end Claim

/-! ## What falls between (R107, R136) -/

theorem workSheetRequest_other {u : State} (h : ∀ r, u.link.handler = .taken r →
    r.code.toNat ∉ [0x40, 0x41, 0x43, 0x45, 0x70, 0x71, 0x72]) : workSheetRequest u = u := by
  unfold workSheetRequest
  split
  · rename_i r taken
    have other := h r taken
    split <;> simp_all
  · rfl

/-- The request in hand is worked between the operations as by its own command. -/
theorem workSheetRequest_taken {u : State} {r : Request} {code : Byte} {f : Request → State → State}
    (high : u.rstLow = false) (taken : u.link.handler = .taken r) (isCode : r.code = code)
    (worked : workSheetRequest u = f r u) : onRequest u code f = .next (takeBetween u .sheetRequest) := by
  rw [onRequest_taken code f high taken isCode, ← worked]
  rfl

/-- Settles O23: the claim on a verified record, by what step 15 asks; what falls between; and the claims that end
before step 8. -/
theorem applyClaimEndsFrame : Obligations.ApplyClaimEndsFrame := by
  refine ⟨fun s x r between high taken kept live => ?_, fun u high => ?_, fun s x between high taken => ?_,
    fun s between high none => ?_, fun s f rest k may queue form => ?_⟩
  · intro y served u written disposed ended withdraws places
    have worked : exec (.applyClaim between) s = .next (applyRecord s x r between) := by
      rw [exec_applyClaim_inFlight high taken, applyInFlight_record kept live]
    have placed : ∀ c, y.sheetRequest = .place c → places c := by
      intro c request
      refine worked.trans (congrArg _ (applyRecord_ends rfl rfl ?_))
      rw [request]
      simp only [makeSheetRequest]
      cases (place u x.slot y.bin c).2 <;> rfl
    refine ⟨fun due => placed _ (sheetRequest_due due), fun urgent => placed _ (sheetRequest_urgent urgent),
      fun notDue notUrgent leaves => ?_, fun notDue notUrgent stays => ?_, fun t p failed noKinds noHold notWaiting => ?_⟩
    · have request : y.sheetRequest = .withdraw := by
        rw [sheetRequest_else notDue notUrgent, if_pos ((evaluate_withdraws notDue notUrgent).mpr leaves)]
      refine worked.trans (congrArg _ (applyRecord_ends rfl rfl ?_))
      rw [request]
      rfl
    · have request : y.sheetRequest = .nothing := by
        rw [sheetRequest_else notDue notUrgent, if_neg (mt (evaluate_withdraws notDue notUrgent).mp stays)]
      refine worked.trans (congrArg _ (applyRecord_ends rfl rfl ?_))
      rw [request]
      rfl
    · have nothing : disposed t p failed = written t p := by simp [disposed, noKinds, allDisposedOf]
      change (if u.intake.state ≠ .stopped ∧ t.intake.state = .stopped then frameOverThenStopped (disposed t p failed)
        else frameOver (disposed t p failed) x.frame.lane 0xFF) = _
      rw [nothing]
      split
      · rename_i stops
        exact frameOverThenStopped_quiet (t := written t p) stops.2 noHold notWaiting
      · exact frameOver_quiet (t := written t p) _ _ noHold notWaiting
  · refine ⟨fun n below => ?_, fun n below => ?_, event_high _ high, fun items => event_high _ high,
      workSheetRequest_other, fun r taken => ?_⟩
    · rw [exec_cutoffEvent, dif_pos below, event_high _ high, takeBetween, takeSheetEvent, dif_pos below]
    · rw [exec_drawTimerExpiry, dif_pos below, event_high _ high, takeBetween, takeSheetEvent, dif_pos below]
    · refine ⟨?_, ?_, ?_, ?_, ?_, ?_, ?_⟩ <;> intro code <;>
        exact workSheetRequest_taken high taken code (by simp only [workSheetRequest, taken, code]; rfl)
  · intro refused
    have worked := exec_applyClaim_inFlight (between := between) high taken
    have noBin : refuseFrame s x.frame .noBin (.bin x.sensor.binId) = refused := refuseFrame_spelled ..
    rw [worked]
    refine ⟨fun r c live bad => ?_, fun dropped verified => ?_, fun kept dead => ?_⟩
    · simp only [applyInFlight, live, ne_eq, bad, not_false_eq_true, if_true]
      rw [endFrame_spelled]
      rfl
    · rw [← noBin]
      unfold applyInFlight
      cases slot : s.table.get x.slot with
      | live r c => simp [verified r c slot, dropped]
      | _ => simp [dropped]
    · have ends : endFrame s x.frame.lane appliedOutcome = frameOver s x.frame.lane 0xFF := endFrame_spelled ..
      rw [← noBin, ← ends]
      unfold applyInFlight
      cases slot : s.table.get x.slot with
      | live r c => rw [slot] at dead; cases dead
      | _ =>
        simp only [kept, Bool.false_or]
        split
        · exact Or.inl rfl
        · exact Or.inr rfl
  · rw [exec_applyClaim, event_high _ high]
    simp only [applyClaim, none]
  · rw [exec_frameTake_mayTake may queue, takeFrame_formError form, refuseFrame_spelled]

end Sys2Proof.Machine
end

section
/-! PROOFS. The conditions: raising one (O25), RULE PUT (O26), MASK PUT and CONDITION READ (O28). -/

namespace Sys2Proof.Machine

/-! ## Group T conditions (R63, R67–R72) -/

section Raise

variable {s : State} {k : Kind} {x : Subject}

theorem raiseT_of_action {a : Action} (h : s.cond.action k = a) (notHold : a ≠ .hold) :
    raiseT s k x = dispose s k x a := by
  simp only [raiseT, h, if_neg notHold]

theorem raiseT_hold (h : s.cond.action k = .hold) :
    raiseT s k x = holdForT (notedWith (s.setCond (counted s.cond k)) k (some x) 1) k := by
  simp only [raiseT, h, if_true, dispose, noteKind_spelled]
  rfl

theorem dispose_note : dispose s k x .note = notedWith (s.setCond (counted s.cond k)) k (some x) 1 := by
  rw [dispose, noteKind_spelled]
  rfl

theorem holdForT_stopped (stopped : s.intake.state = .stopped) : holdForT s k = s := by
  rw [holdForT_eq, if_pos stopped]

theorem holdForT_busy (running : s.intake.state ≠ .stopped) (busy : s.intake.inFlight ≠ none) :
    holdForT s k = s.setIntake { s.intake with holdWaiting := some k } := by
  rw [holdForT_eq, if_neg running, if_pos busy]

theorem holdForT_free (running : s.intake.state ≠ .stopped) (free : s.intake.inFlight = none) :
    holdForT s k = heldWith s (.kind k) := by
  rw [holdForT_eq, if_neg running, if_neg (not_not.mpr free), holdNow_spelled]

end Raise

/-- Settles O25: the five actions, HOLD by the intake state and the frame in flight. -/
theorem conditionActions : Obligations.ConditionActions := by
  intro s k x c noted
  refine ⟨fun h => ?_, fun h => ?_, fun h => ?_, fun h stopped => ?_, fun h running busy => ?_, fun h running free => ?_⟩
  · rcases h with h | h <;> rw [raiseT_of_action h (by decide)] <;> rfl
  · rw [raiseT_of_action h (by decide), dispose_note]
    rfl
  · rw [raiseT_of_action h (by decide)]
    rfl
  · rw [raiseT_hold h]
    exact holdForT_stopped stopped
  · rw [raiseT_hold h]
    exact holdForT_busy running busy
  · rw [raiseT_hold h]
    exact holdForT_free running free

/-! ## RULE PUT (R79) -/

theorem action?_code (a : Action) : action? a.code = some a := by cases a <;> decide

theorem action?_of_lt {b : Byte} (h : 4 < b.toNat) : action? b = none := by
  unfold action?
  split
  case h_6 => rfl
  all_goals omega

section Rule

variable {s : State} {tag : Word16} {k : Kind} {a u : Action}

/-- The row written, and nothing else. -/
def rowWritten (s : State) (k : Kind) (row : Row) : State :=
  s.setCond { s.cond with rows := Vec.put s.cond.rows k.idx row }

theorem writeRow_same (h : Vec.get s.cond.rows k.idx = ⟨a, u⟩) : writeRow s k ⟨a, u⟩ = s := if_pos h

theorem writeRow_changed (h : Vec.get s.cond.rows k.idx ≠ ⟨a, u⟩) :
    writeRow s k ⟨a, u⟩ = reexamine (rowWritten s k ⟨a, u⟩) k := if_neg h

theorem rowWritten_action :
    (rowWritten s k ⟨a, u⟩).cond.action k = if Vec.get s.cond.mask k.idx = true then a else u := by
  simp [rowWritten, CondUnit.action]

/-- RULE PUT of a row answers with the deferred count that the re-examination leaves. -/
theorem exec_rulePut_asked {t : State} {n : Word32} (asked : Asked s 0x60 tag [byte k.idx.val, a.code, u.code])
    (written : writeRow s k ⟨a, u⟩ = t) (left : (Vec.get t.cond.deferred k.idx).count = n) :
    exec .rulePut s = .next (answeredWith t 0x60 tag 0 ([byte k.idx.val] ++ be32 n.toNat)) := by
  rw [exec_rulePut, exec_asked asked]
  simp only [rulePutRequest, kind?_idx, action?_code, written, deferredCount, left]
  exact next_reply ..

end Rule

theorem clearDeferred_deferred (s : State) (k : Kind) : Vec.get (clearDeferred s k).cond.deferred k.idx = ⟨0, none⟩ := by
  simp [clearDeferred]

/-- Settles O26: operands out of range; a row written unchanged; a changed row by what its re-examination does. -/
theorem rulePutReexamines : Obligations.RulePutReexamines := by
  refine ⟨fun s tag kind a u asked outOfRange => ?_, fun s tag k a u asked => ?_⟩
  · rw [exec_rulePut, exec_asked asked]
    have refused : rulePutRequest ⟨0x60, tag, [kind, a, u]⟩ s = reply s ⟨0x60, tag, [kind, a, u]⟩ .range [] := by
      simp only [rulePutRequest]
      split
      · rename_i known armed unarmed
        rcases outOfRange with h | h | h
        · rw [kind?_eq_none h] at known; cases known
        · rw [action?_of_lt h] at armed; cases armed
        · rw [action?_of_lt h] at unarmed; cases unarmed
      · rfl
    rw [refused]
    exact next_reply ..
  · intro d written emptied now st noted data
    have action : (rowWritten s k ⟨a, u⟩).cond.action k = now := rowWritten_action
    have none : ∀ v, (Vec.get (clearDeferred v k).cond.deferred k.idx).count = 0 := fun v => by
      rw [clearDeferred_deferred]
    refine ⟨fun same => exec_rulePut_asked asked (writeRow_same same) rfl, fun changed keeps => ?_,
      fun changed some given => ?_, fun changed some notes => ?_, fun changed some holds running free => ?_,
      fun changed some holds running busy => ?_⟩
    · refine exec_rulePut_asked asked ((writeRow_changed changed).trans ?_) rfl
      rcases keeps with zero | defers
      · exact reexamine_zero (s := rowWritten s k ⟨a, u⟩) zero
      · exact reexamine_defer (action.trans defers)
    · exact exec_rulePut_asked asked ((writeRow_changed changed).trans
        (reexamine_given (s := rowWritten s k ⟨a, u⟩) some (given.imp action.trans action.trans))) (none _)
    · rcases notes with notes | ⟨holds, stopped⟩
      · rw [exec_rulePut_asked asked ((writeRow_changed changed).trans
          (reexamine_note (s := rowWritten s k ⟨a, u⟩) some (action.trans notes))) (none _), noteKind_spelled]
        rfl
      · rw [exec_rulePut_asked asked ((writeRow_changed changed).trans
          ((reexamine_hold (s := rowWritten s k ⟨a, u⟩) some (action.trans holds)).trans (holdForT_stopped stopped)))
          (none _), noteKind_spelled]
        rfl
    · rw [exec_rulePut_asked asked ((writeRow_changed changed).trans
        ((reexamine_hold (s := rowWritten s k ⟨a, u⟩) some (action.trans holds)).trans (holdForT_free running free)))
        (none _), noteKind_spelled]
      rfl
    · rw [exec_rulePut_asked asked ((writeRow_changed changed).trans
        ((reexamine_hold (s := rowWritten s k ⟨a, u⟩) some (action.trans holds)).trans (holdForT_busy running busy)))
        (none _), noteKind_spelled]
      rfl

/-! ## MASK PUT (R74, R81) -/

section Mask

variable {s : State}

/-- The number of three bytes. -/
theorem toNat_append3 (a b c : Byte) : (a ++ b ++ c).toNat = 65536 * a.toNat + num16 b c := by
  have := a.isLt; have := b.isLt; have := c.isLt
  rw [BitVec.toNat_append, BitVec.toNat_append, ← Nat.shiftLeft_add_eq_or_of_lt (by omega),
    ← Nat.shiftLeft_add_eq_or_of_lt (by omega), num16]
  simp only [Nat.shiftLeft_eq]
  omega

theorem maskOf_eq (a b c : Byte) :
    maskOf (65536 * a.toNat + num16 b c) = Vector.ofFn fun k : Fin 18 => (a ++ b ++ c).getLsbD k.val := by
  rw [← toNat_append3]
  rfl

theorem changedKinds_eq (old new : Vector Bool 18) :
    changedKinds old new = allKinds.filter fun k => decide (Vec.get old k.idx ≠ Vec.get new k.idx) := by
  refine List.filter_congr fun k _ => ?_
  cases Vec.get old k.idx <;> cases Vec.get new k.idx <;> rfl

theorem writeMask_spelled (s : State) (m : Vector Bool 18) :
    writeMask s m = (allKinds.filter fun k => decide (Vec.get s.cond.mask k.idx ≠ Vec.get m k.idx)).foldl reexamined
      (s.setCond { s.cond with mask := m }) := by
  have spelled : reexamine = reexamined := funext fun u => funext fun k => reexamine_spelled u k
  rw [writeMask, changedKinds_eq, spelled]

/-- What a re-examination leaves: the mask, the counts and the rows, and all outside the conditions, the notices and the
intake. -/
def reexaminedOnly (s t : State) : Prop :=
  t.cond.mask = s.cond.mask ∧ t.cond.counts = s.cond.counts ∧ t.cond.rows = s.cond.rows ∧
  t = ((s.setCond t.cond).setNotices t.notices).setIntake t.intake

theorem reexaminedOnly.trans {s t u : State} (h : reexaminedOnly s t) (h' : reexaminedOnly t u) : reexaminedOnly s u := by
  obtain ⟨mask, counts, rows, rest⟩ := h
  obtain ⟨mask', counts', rows', rest'⟩ := h'
  refine ⟨mask'.trans mask, counts'.trans counts, rows'.trans rows, ?_⟩
  rw [rest] at rest'
  exact rest'

theorem reexamined_only (s : State) (k : Kind) : reexaminedOnly s (reexamined s k) := by
  unfold reexamined
  dsimp only
  repeat' split
  all_goals exact ⟨rfl, rfl, rfl, rfl⟩

/-- A re-examination of another kind leaves a kind's deferred occurrences and its status. -/
theorem reexamined_other {k j : Kind} (other : j ≠ k) :
    Vec.get (reexamined s j).cond.deferred k.idx = Vec.get s.cond.deferred k.idx ∧
    Vec.get (reexamined s j).notices.conds k.idx = Vec.get s.notices.conds k.idx := by
  have apart : j.idx ≠ k.idx := fun same => other (by revert same; cases j <;> cases k <;> decide)
  unfold reexamined
  dsimp only
  repeat' split
  all_goals simp [notedWith, heldWith, Vec.get_put_of_ne _ _ apart]

theorem reexamined_none {k : Kind} (none : (Vec.get s.cond.deferred k.idx).count = 0) : reexamined s k = s :=
  if_pos none

theorem reexaminedAll_only (l : List Kind) (s : State) : reexaminedOnly s (l.foldl reexamined s) := by
  induction l generalizing s with
  | nil => exact ⟨rfl, rfl, rfl, rfl⟩
  | cons k l ih => exact (reexamined_only s k).trans (ih (reexamined s k))

theorem reexaminedAll_other {k : Kind} (l : List Kind) (other : k ∉ l) (s : State) :
    Vec.get (l.foldl reexamined s).cond.deferred k.idx = Vec.get s.cond.deferred k.idx ∧
    Vec.get (l.foldl reexamined s).notices.conds k.idx = Vec.get s.notices.conds k.idx := by
  induction l generalizing s with
  | nil => exact ⟨rfl, rfl⟩
  | cons j l ih =>
    obtain ⟨notFirst, notRest⟩ := not_or.mp (mt List.mem_cons.mpr other)
    obtain ⟨deferred, status⟩ := reexamined_other (s := s) (Ne.symm notFirst)
    obtain ⟨deferred', status'⟩ := ih notRest (reexamined s j)
    exact ⟨deferred'.trans deferred, status'.trans status⟩

theorem reexaminedAll_none (l : List Kind) (none : ∀ k : Kind, (Vec.get s.cond.deferred k.idx).count = 0) :
    l.foldl reexamined s = s := by
  induction l with
  | nil => rfl
  | cons k l ih => rw [List.foldl_cons, reexamined_none (none k), ih]

/-- The deferred occurrences and the status of a kind whose setting is written unchanged stand. -/
theorem writeMask_unchanged {k : Kind} {m : Vector Bool 18} (same : Vec.get s.cond.mask k.idx = Vec.get m k.idx) :
    Vec.get (writeMask s m).cond.deferred k.idx = Vec.get s.cond.deferred k.idx ∧
    Vec.get (writeMask s m).notices.conds k.idx = Vec.get s.notices.conds k.idx := by
  have unchanged : k ∉ allKinds.filter fun k => decide (Vec.get s.cond.mask k.idx ≠ Vec.get m k.idx) := by simp [same]
  obtain ⟨deferred, status⟩ := reexaminedAll_other _ unchanged (s.setCond { s.cond with mask := m })
  rw [writeMask_spelled, deferred, status]
  exact ⟨rfl, rfl⟩

theorem writeMask_only (s : State) (m : Vector Bool 18) :
    (writeMask s m).cond.mask = m ∧ (writeMask s m).cond.counts = s.cond.counts ∧
    (writeMask s m).cond.rows = s.cond.rows ∧
    writeMask s m = ((s.setCond (writeMask s m).cond).setNotices (writeMask s m).notices).setIntake
      (writeMask s m).intake := by
  rw [writeMask_spelled]
  exact reexaminedAll_only _ (s.setCond { s.cond with mask := m })

theorem writeMask_none (m : Vector Bool 18) (none : ∀ k : Kind, (Vec.get s.cond.deferred k.idx).count = 0) :
    writeMask s m = s.setCond { s.cond with mask := m } := by
  rw [writeMask_spelled]
  exact reexaminedAll_none _ none

end Mask

/-- Settles O28: MASK PUT and what its re-examinations leave; CONDITION READ by its clear option. -/
theorem maskPutAndConditionRead : Obligations.MaskPutAndConditionRead := by
  refine ⟨fun s tag a b c asked => ?_, fun s tag clear asked => ?_⟩
  · intro m changed t
    have written : writeMask s m = t := writeMask_spelled s m
    clear_value t
    subst written
    obtain ⟨mask, counts, rows, rest⟩ := writeMask_only s m
    rw [exec_maskPut, exec_asked asked]
    refine ⟨fun outOfRange => ?_, fun inRange => ?_, fun k same => writeMask_unchanged same, mask, counts, rows, rest,
      writeMask_none m⟩
    · simp only [maskPutRequest, if_neg (Nat.not_lt.mpr outOfRange)]
      exact next_reply ..
    · simp only [maskPutRequest, if_pos inRange, maskOf_eq]
      exact next_reply ..
  · intro data
    have isData : conditionData s.cond = data := rfl
    rw [exec_conditionRead, exec_asked asked, ← isData]
    refine ⟨fun outOfRange => ?_, ?_, ?_⟩
    · simp only [conditionReadRequest, yesNo?_of_lt outOfRange]
      exact next_reply ..
    · rintro rfl
      exact next_reply ..
    · rintro rfl
      exact next_reply ..

end Sys2Proof.Machine
end

section
/-! PROOFS. The Time Base: the tick (O29), the epoch end and the triggers (O30), the minute change (O31). -/

namespace Sys2Proof.Machine

/-! ## The tick (R84–R86, R92) -/

section Clock

variable (t : TimeBase)

/-- The Day Clock touches the second, the minute, the day and the minute changes owed alone. -/
theorem advanceClock_frame : t.advanceClock.tick = t.tick ∧ t.advanceClock.epoch = t.epoch ∧
    t.advanceClock.elapsed = t.elapsed ∧ t.advanceClock.epochEndOwed = t.epochEndOwed ∧
    t.advanceClock.period = t.period ∧ t.advanceClock.interval = t.interval ∧
    t.advanceClock.postCount = t.postCount ∧ t.advanceClock.triggersOwed = t.triggersOwed ∧
    t.advanceClock.cutoffsOwed = t.cutoffsOwed := by
  unfold TimeBase.advanceClock
  split <;> simp [TimeBase.advanceMinute]

variable {t}

theorem advanceClock_second (h : t.second < 59) : t.advanceClock = { t with second := t.second + 1 } := if_pos (by omega)

theorem advanceClock_minute (full : t.second = 59) (h : t.minute < 1439) : t.advanceClock =
    { t with
      second := 0, minute := t.minute + 1, minuteChangesOwed := t.minuteChangesOwed ++ [(t.minute + 1, t.day)] } := by
  have minute : ¬ t.second + 1 < 60 := by omega
  have noMidnight : t.minute + 1 < 1440 := by omega
  simp only [TimeBase.advanceClock, if_neg minute, TimeBase.advanceMinute, if_pos noMidnight]

theorem advanceClock_midnight (full : t.second = 59) (h : t.minute = 1439) : t.advanceClock =
    let day := if t.day + 1 < 65536 then t.day + 1 else 0
    { t with second := 0, minute := 0, day := day, minuteChangesOwed := t.minuteChangesOwed ++ [(0, day)] } := by
  have minute : ¬ t.second + 1 < 60 := by omega
  have midnight : ¬ t.minute + 1 < 1440 := by omega
  simp only [TimeBase.advanceClock, if_neg minute, TimeBase.advanceMinute, if_neg midnight]

/-- The Time Base after the tick counter and the Epoch Counter have taken a tick. -/
def TimeBase.ticked (t : TimeBase) : TimeBase :=
  { t with tick := t.tick + 1, elapsed := t.elapsed + 1, epochEndOwed := decide (t.period ≤ t.elapsed + 1) }

/-- A tick with no epoch end owed. -/
theorem advance_notOwed (notOwed : t.epochEndOwed = false) : t.advance = t.ticked.advanceClock := by
  rw [TimeBase.advance, endEpoch_notOwed notOwed]
  rfl

end Clock

/-- Without a storage failure the tick leaves the table. -/
theorem tickAll_none (s : State) : tickAll [] s =
    ((s.setTime s.time.advance).setIntake (s.intake.age s.time.advance.tick)).setPorts
      (Vec.map (Port.age s.drawTimeout) s.ports) := rfl

theorem timed_eq_false (x : Port) : x.state.timed = false ↔ notReading x := by
  unfold notReading
  cases x.state <;> simp [PortState.timed]

theorem tickAll_port (s : State) (p : Fin 4) : (tickAll [] s).port p = (s.port p).age s.drawTimeout := by
  rw [tickAll_none]
  exact Vec.get_map ..

/-- One failing slot (R24). -/
theorem fail_one (t : BinTable) (i : Nat) (c : Word16) :
    t.fail [(i, c)] = match t.get i with
      | .live r old => t.put i (.live r (old ^^^ c))
      | _ => t := by
  unfold BinTable.fail
  cases t.get i <;> rfl

/-- Settles O29: the fields of the Time Base by the Day Clock's cases, the window, the ports and, with a failing slot,
the table. -/
theorem tickAdvancesTime : Obligations.TickAdvancesTime := by
  refine ⟨fun s high notOwed => ⟨tickAll [] s, (exec_tick [] s).trans (event_high _ high), ?_⟩,
    fun s i c high wf => ⟨tickAll [(i, c)] s, (exec_tick _ s).trans (event_high _ high), ?_⟩⟩
  · have time : (tickAll [] s).time = s.time.advance := rfl
    have advanced := advance_notOwed notOwed
    obtain ⟨tick, epoch, elapsed, owed, period, interval, count, triggers, cutoffs⟩ := advanceClock_frame
      s.time.ticked
    rw [← advanced, ← time] at tick epoch elapsed owed period interval count triggers cutoffs
    refine ⟨tick, epoch, elapsed, by rw [owed]; exact decide_eq_true_iff, fun second => ?_, fun full minute => ?_,
      fun full midnight => ?_, period, interval, count, triggers, cutoffs, ?_, fun p idle => ?_, fun p runs limit notOwed => ?_,
      rfl⟩
    · rw [time, advanced, advanceClock_second (t := s.time.ticked) second]
      exact ⟨rfl, rfl, rfl, rfl⟩
    · rw [time, advanced, advanceClock_minute (t := s.time.ticked) full minute]
      exact ⟨rfl, rfl, rfl, rfl⟩
    · rw [time, advanced, advanceClock_midnight (t := s.time.ticked) full midnight]
      refine ⟨rfl, rfl, fun below => if_pos (Nat.succ_lt_succ below), fun last => if_neg ?_, rfl⟩
      change ¬ s.time.day + 1 < 65536
      omega
    · rw [tickAll_none]
      simp only [setPorts_intake, setIntake_intake, Intake.age]
      rw [← time, tick]
      rfl
    · rw [tickAll_port, Port.age, if_neg]
      rintro ⟨timed, limit, notOwed⟩
      rcases idle with still | noLimit | owed
      · rw [(timed_eq_false _).mpr still] at timed; cases timed
      · exact limit noLimit
      · rw [owed] at notOwed; cases notOwed
    · have timed : (s.port p).state.timed = true := by
        rw [← Bool.not_eq_false]
        exact mt (timed_eq_false _).mp runs
      rw [tickAll_port, Port.age, if_pos ⟨timed, limit, notOwed⟩]
  · have table : (tickAll [(i, c)] s).table = s.table.fail [(i, c)] := rfl
    rw [table, fail_one]
    refine ⟨fun r old live => ?_, fun dead => ?_, fun j other => ?_⟩
    · rw [live]
      exact BinTable.get_put_live ..
    · cases slot : s.table.get i with
      | live r old => rw [slot] at dead; cases dead
      | _ => rfl
    · cases s.table.get i with
      | live r old => exact BinTable.get_put_of_ne _ _ other
      | _ => rfl

/-! ## The epoch end and the triggers (R86, R90, R159, R160) -/

theorem skipsTrigger_iff (s : State) : s.skipsTrigger = true ↔ s.intake.state = .stopped ∨
    ∃ tag done lost, s.link.handler = .restarting tag done lost ∧ 2 ≤ done := by
  unfold State.skipsTrigger State.isStopped
  rw [Bool.or_eq_true, decide_eq_true_iff]
  refine or_congr_right ?_
  cases s.link.handler <;> simp

/-- Settles O30: the postscaler by its interval, and a trigger by the intake, the RESTART in hand and the engine. -/
theorem epochEndAndTrigger : Obligations.EpochEndAndTrigger := by
  refine ⟨fun s high => ?_, fun s high => ?_⟩
  · rw [exec_epochEnd, event_high _ high]
    refine ⟨fun notOwed => ?_, fun owed => ?_⟩
    · rw [endEpoch_notOwed notOwed]
      rfl
    · intro ended
      have counted : s.time.endEpoch = ended.countEpochEnd := endEpoch_owed owed
      rw [counted, TimeBase.countEpochEnd]
      refine ⟨fun off => ?_, fun below => ?_, fun on reached => ?_⟩
      · rw [if_pos (show ended.interval = 0 from off)]
      · rw [if_neg (show ¬ ended.interval = 0 by change ¬ s.time.interval = 0; omega),
          if_neg (show ¬ ended.interval ≤ ended.postCount + 1 from Nat.not_le.mpr below)]
      · rw [if_neg (show ¬ ended.interval = 0 from on), if_pos (show ended.interval ≤ ended.postCount + 1 from reached)]
  · rw [exec_sweepTrigger, event_high _ high]
    refine ⟨fun none => ?_, fun n owed => ?_⟩
    · rw [takeTrigger, if_pos none]
    · intro taken restarted
      have oneLess : s.time.triggersOwed - 1 = n := by omega
      have skips : taken.skipsTrigger = true ↔ s.intake.state = .stopped ∨ restarted := skipsTrigger_iff taken
      have worked : takeTrigger s = if taken.skipsTrigger then taken
          else if taken.sweep.running then taken.setSweep { taken.sweep with overlaps := taken.sweep.overlaps + 1 }
          else startSweep taken := by
        rw [takeTrigger, if_neg (by omega), oneLess]
      rw [worked]
      refine ⟨fun skipped => ?_, fun running notRestarted sweeps => ?_, fun running notRestarted idle => ?_⟩
      · rw [if_pos (skips.mpr skipped)]
      · rw [if_neg (mt skips.mp (not_or.mpr ⟨running, notRestarted⟩)), if_pos (show taken.sweep.running = true from sweeps)]
        rfl
      · rw [if_neg (mt skips.mp (not_or.mpr ⟨running, notRestarted⟩)),
          if_neg (show ¬ taken.sweep.running = true by simp [taken, idle])]
        rfl

/-! ## The minute change (R93, R94) -/

theorem dueAt_iff (x : Round) (m d : Nat) :
    x.dueAt m d = true ↔ x.enabled = true ∧ x.cutoffMinute = m ∧ d % x.postscaler = x.phase := by
  simp [Round.dueAt, and_assoc]

/-- Settles O31: the rounds are compared in their order, and none is named twice. -/
theorem minuteChangeMakesCutoffs : Obligations.MinuteChangeMakesCutoffs := by
  refine ⟨fun s m d rest high owed => ⟨allRounds.filter fun q => (s.round q).dueAt m d, ?_, ?_, fun q => ?_⟩,
    fun s high none => ?_⟩
  · rw [exec_minuteChange, event_high _ high]
    simp only [compareMinute, owed]
  · exact (List.nodup_finRange 64).filter _
  · rw [List.mem_filter, dueAt_iff]
    exact and_iff_right (List.mem_finRange q)
  · rw [exec_minuteChange, event_high _ high]
    simp only [compareMinute, none]

end Sys2Proof.Machine
end

section
/-! PROOFS. Cut-offs (O34), ROUND PUT and ROUND GET (O35). -/

namespace Sys2Proof.Machine

/-! ## Cut-offs (R122–R126, R128) -/

section CutoffCases

variable {s : State} {q : Fin 64}

/-- The side that a round does not fill, by its letter. -/
theorem flip_spelled (d : Side) : (match d with | .a => Side.b | .b => Side.a) = d.flip := by cases d <;> rfl

/-- A sealed side as the statements spell it. -/
theorem sealedAt_spelled (x : Round) (e : Word32) :
    x.sealedAt e = { x with
      fillSide := (match x.fillSide with | .a => .b | .b => .a), fill := [], otherState := .sealed, other := x.fill,
      lastCutoff := some e } := by
  rw [flip_spelled]
  rfl

/-- The state a held cut-off leaves, part by part (R126). -/
theorem cutoffHeld_parts (s : State) (q : Fin 64) (x : Round) :
    let t := raiseT ((s.setRound q x).raiseRound q .late) .cutoffHeld (.round q)
    t.round q = x ∧ (∀ u, u ≠ q → t.round u = s.round u) ∧ (t.notices.roundFlag q .late).set = true ∧
      t.cond.counts = (counted s.cond .cutoffHeld).counts ∧
      t = raiseT ((s.setRounds t.rounds).setNotices (roundSet s.notices q .late)) .cutoffHeld (.round q) ∧
      t = (((s.setRounds t.rounds).setNotices t.notices).setCond t.cond).setIntake t.intake := by
  intro t
  refine ⟨?_, fun u other => ?_, ?_, raiseT_counts .., ?_, ?_⟩
  · simp [t]
  · rw [round_raiseT, round_raiseRound, round_setRound_of_ne _ _ (Ne.symm other)]
  · rw [roundFlag_raiseT]
    exact Notices.raise_round_set ..
  · have rounds : t.rounds = (s.setRound q x).rounds := by simp [t]
    rw [rounds]
    simp only [t, raiseRound_spelled]
    rfl
  · apply State.ext_fields <;> simp [t]

theorem cutoff_sealing_iff {n : Nat} {o : Bool} (h : (cutoff s q).2 = .sealed n o) : (s.round q).otherState = .free := by
  by_contra notFree
  rw [cutoff_held_iff.mpr notFree] at h
  cases h

/-- The data of an empty and of a held cut-off. -/
theorem cutoff_empty_counts (h : (cutoff s q).2 = .empty) : (cutoff s q).1.emptyCutoffs = s.emptyCutoffs + 1 := by
  have free : (s.round q).otherState = .free := by
    by_contra notFree
    rw [cutoff_held_iff.mpr notFree] at h
    cases h
  by_cases nothing : (s.round q).fill = [] ∧ (s.round q).sealEmpty = false
  · rw [cutoff_empty free nothing.1 nothing.2]
    rfl
  · rw [cutoff, if_pos free, cutoffFree, if_neg nothing] at h
    cases bound : (s.round q).bound <;> simp [sealRound, bound] at h

theorem cutoff_held_missed (h : (cutoff s q).2 = .held) : ((cutoff s q).1.round q).missed =
    if (s.round q).held = true then satInc16 (s.round q).missed else (s.round q).missed := by
  rw [cutoff_held (cutoff_held_iff.mp h)]
  simp

end CutoffCases

/-- Settles O34: the event by the state of the other side, its command, and CUTOFF NOW by the event's outcome. -/
theorem cutoffOutcomes : Obligations.CutoffOutcomes := by
  refine ⟨fun s q => ?_, fun s q high => ⟨fun owed => ?_, fun notOwed => ?_⟩, fun s tag b asked => ?_⟩
  · refine ⟨cutoff_empty, fun free entries unbound => ?_, fun p free entries bound => ?_,
      fun p free nothing sealsEmpty bound => ?_, fun notFree => ?_⟩
    · rw [cutoff_sealing free entries, sealRound_unbound unbound, raiseRound_spelled]
      rfl
    · rw [cutoff_sealing free (.inl entries), sealRound_opens bound entries, raiseRound_spelled]
      rfl
    · rw [cutoff_sealing free (.inr sealsEmpty), sealRound_spends bound nothing, raise_round_spelled,
        raise_round_spelled]
      rfl
    · exact ⟨_, cutoff_held notFree, cutoffHeld_parts s q _⟩
  · rw [exec_cutoffEvent, dif_pos q.isLt, event_high _ high]
    simp only [takeCutoff, Fin.eta, if_pos owed]
  · rw [exec_cutoffEvent, dif_pos q.isLt, event_high _ high]
    simp only [takeCutoff, Fin.eta, if_neg notOwed]
  · rw [exec_cutoffNow, exec_asked asked]
    refine ⟨fun stopped => ?_, fun running outOfRange => ?_, fun q running number => ?_⟩
    · simp only [cutoffNowRequest, State.isStopped_of_eq stopped]
      exact next_reply ..
    · simp only [cutoffNowRequest, State.isStopped_of_ne running, index?_of_le (Nat.succ_le_of_lt outOfRange)]
      exact next_reply ..
    · have answered : cutoffNowRequest ⟨0x72, tag, [b]⟩ s =
          reply (cutoff s q).1 ⟨0x72, tag, [b]⟩ .ok (cutoffData (cutoff s q).1 q (cutoff s q).2) := by
        simp only [cutoffNowRequest, State.isStopped_of_ne running, index?_of_eq number]
        rfl
      rw [answered, next_reply]
      refine ⟨fun n o sealing => ?_, fun nothing => ?_, fun held => ?_⟩
      · rw [sealing]
        rfl
      · rw [nothing, cutoffData, cutoff_empty_counts nothing]
        rfl
      · rw [held, cutoffData, cutoff_held_missed held]
        rfl

/-! ## ROUND PUT and ROUND GET (R116–R118) -/

theorem roundPutOperands_eq (b en em post phase cap : Byte) (minute : Nat) (o : RoundPut)
    (ho : o = ⟨decide (en = 1#8), minute, post.toNat, phase.toNat, cap.toNat, decide (em = 1#8)⟩) :
    roundPutOperands b en post phase cap em minute =
      if en.toNat ≤ 1 ∧ em.toNat ≤ 1 ∧ o.inRange = true then (index? 64 b).map fun q => (q, o) else none := by
  subst ho
  unfold roundPutOperands
  cases index? 64 b with
  | none => simp
  | some q =>
    by_cases enabledRange : en.toNat ≤ 1
    · by_cases emptyRange : em.toNat ≤ 1
      · simp [yesNo?_of_le enabledRange, yesNo?_of_le emptyRange, enabledRange, emptyRange]
      · simp [yesNo?_of_lt (Nat.not_le.mp emptyRange), emptyRange]
    · simp [yesNo?_of_lt (Nat.not_le.mp enabledRange), enabledRange]

/-- Configuring with a yes or a no byte: no clears Held. -/
theorem configure_held (x : Round) {en : Byte} (range : en.toNat ≤ 1) :
    (x.held && decide (en = 1#8)) = if en = 0#8 then false else x.held := by
  by_cases zero : en = 0#8
  · simp [zero]
  · have one : en = 1#8 := BitVec.eq_of_toNat_eq (by
      have : en.toNat ≠ 0 := fun h => zero (BitVec.eq_of_toNat_eq h)
      show en.toNat = 1
      omega)
    simp [one]

/-- The bytes of the two sides, by which side fills. -/
theorem sides_a {x : Round} (h : x.fillSide = .a) : x.sideEntries .a = x.fill ∧ x.sideEntries .b = x.other ∧
    x.sideCode .a = 0 ∧ x.sideCode .b = x.otherState.code := by
  simp [Round.sideEntries, Round.sideCode, h]

theorem sides_b {x : Round} (h : x.fillSide = .b) : x.sideEntries .a = x.other ∧ x.sideEntries .b = x.fill ∧
    x.sideCode .a = x.otherState.code ∧ x.sideCode .b = 0 := by
  refine ⟨?_, ?_, ?_, ?_⟩ <;> simp [Round.sideEntries, Round.sideCode, h]

theorem unmarkedOf_eq (l : List Entry) (c : EntryClass) :
    unmarkedOf l c = (l.filter fun y => y.mark = .none ∧ y.cls = c).length := by
  rw [unmarkedOf, List.countP_eq_length_filter]
  congr 2
  funext e
  simp [Entry.marked]

theorem countP_marked (l : List Entry) : l.countP Entry.marked = (l.filter fun y => y.mark ≠ .none).length := by
  rw [List.countP_eq_length_filter]
  rfl

/-- Settles O35: ROUND PUT in STOPPED, out of range, below the sides' counts and stored; ROUND GET by which side fills. -/
theorem roundPutAndGet : Obligations.RoundPutAndGet := by
  refine ⟨fun s tag b en m0 m1 ps ph cap em asked => ?_, fun s tag b asked => ?_⟩
  · intro good
    have operands := roundPutOperands_eq b en em ps ph cap (num16 m0 m1) _ rfl
    rw [exec_roundPut, exec_asked asked]
    refine ⟨fun stopped => ?_, fun running bad => ?_, fun q running number isGood => ?_⟩
    · simp only [roundPutRequest, State.isStopped_of_eq stopped]
      exact next_reply ..
    · have refused : roundPutOperands b en ps ph cap em (num16 m0 m1) = none := by
        rw [operands]
        split
        · rename_i inRange
          by_cases known : 63 < b.toNat
          · rw [index?_of_le (by omega)]
            rfl
          · refine absurd ?_ (bad.resolve_left known)
            simp only [RoundPut.inRange, decide_eq_true_eq, num16_eq_append] at inRange
            exact ⟨inRange.1, inRange.2.1, inRange.2.2⟩
        · rfl
      simp only [roundPutRequest, State.isStopped_of_ne running, refused]
      exact next_reply ..
    · intro x
      obtain ⟨enabledRange, emptyRange, ranges⟩ := isGood
      have stored : roundPutOperands b en ps ph cap em (num16 m0 m1) =
          some (q, ⟨decide (en = 1#8), (m0 ++ m1).toNat, ps.toNat, ph.toNat, cap.toNat, decide (em = 1#8)⟩) := by
        rw [operands, if_pos, index?_of_eq number]
        · simp only [num16_eq_append, Option.map_some]
        · exact ⟨enabledRange, emptyRange, by simpa only [RoundPut.inRange, decide_eq_true_eq, num16_eq_append]⟩
      simp only [roundPutRequest, State.isStopped_of_ne running, stored]
      refine ⟨fun small => ?_, fun fillFits otherFits => ?_⟩
      · rw [if_pos small]
        exact next_reply ..
      · have fits : ¬ (cap.toNat < (s.round q).fill.length ∨ cap.toNat < (s.round q).other.length) :=
          not_or.mpr ⟨Nat.not_lt.mpr fillFits, Nat.not_lt.mpr otherFits⟩
        rw [if_neg fits]
        refine (next_reply ..).trans ?_
        have configured : x.configure ⟨decide (en = 1#8), (m0 ++ m1).toNat, ps.toNat, ph.toNat, cap.toNat,
            decide (em = 1#8)⟩ = { x with
          enabled := decide (en = 1#8), cutoffMinute := (m0 ++ m1).toNat, postscaler := ps.toNat, phase := ph.toNat,
          cap := cap.toNat, sealEmpty := decide (em = 1#8), held := if en = 0#8 then false else x.held } := by
          rw [← configure_held x enabledRange]
          rfl
        rw [configured]
        cases letter : x.fillSide with
        | a =>
          obtain ⟨first, second, -, -⟩ := sides_a letter
          rw [first, second]
          rfl
        | b =>
          obtain ⟨first, second, -, -⟩ := sides_b letter
          rw [first, second]
          rfl
  · rw [exec_roundGet, exec_asked asked]
    refine ⟨fun outOfRange => ?_, fun q number => ?_⟩
    · simp only [roundGetRequest, index?_of_le (Nat.succ_le_of_lt outOfRange)]
      exact next_reply ..
    · intro x f side sides
      have sideText : ∀ (code : Byte) (l : List Entry), side code l = [code, byte l.length, byte (l.countP Entry.marked),
          byte (unmarkedOf l .urgent), byte (unmarkedOf l .due), byte (unmarkedOf l .check)] := fun code l => by
        simp only [unmarkedOf_eq, countP_marked]
        rfl
      have bothSides : sides = x.fillSide.code :: (x.sideBytes .a ++ x.sideBytes .b) := by
        simp only [sides, sideText, Round.sideBytes]
        cases letter : x.fillSide with
        | a => simp only [sides_a letter]; rfl
        | b => simp only [sides_b letter]; rfl
      simp only [roundGetRequest, index?_of_eq number]
      refine (next_reply ..).trans ?_
      rw [bothSides]
      simp only [roundData, List.append_assoc, List.cons_append, List.nil_append]
      rfl

end Sys2Proof.Machine
end

section
/-! PROOFS. The draw ports: BIND (O38), REWIND and PORT GET (O40), UNBIND and the draw timer (O41). -/

namespace Sys2Proof.Machine

/-! ## BIND (R141, R142) -/

section Bind

variable {s : State} {p : Fin 4} {q : Fin 64}

theorem bindPort_waits (notSealed : (s.round q).otherState ≠ .sealed) :
    bindPort s p q = (s.setRound q { s.round q with bound := some p }).setPort p ⟨.waiting q, 0, 0, false⟩ := by
  simp only [bindPort, round_setRound_same, if_neg notSealed]

theorem bindPort_opens (isSealed : (s.round q).otherState = .sealed) (entries : (s.round q).other ≠ []) :
    bindPort s p q = (s.setRound q { s.round q with bound := some p, otherState := .opened }).setPort p
      ⟨.reading q, 0, 0, false⟩ := by
  simp only [bindPort, round_setRound_same, if_pos isSealed]
  rw [openSide_entries p (by simpa using entries)]
  simp only [setRound_setRound, round_setRound_same]

theorem bindPort_spends (isSealed : (s.round q).otherState = .sealed) (nothing : (s.round q).other = []) :
    bindPort s p q = ((s.setRound q { s.round q with bound := some p, otherState := .spent }).setPort p
      ⟨.exhausted q, 0, 0, false⟩).setNotices (roundSet s.notices q .emptied) := by
  simp only [bindPort, round_setRound_same, if_pos isSealed]
  rw [openSide_empty p (by simpa using nothing)]
  simp only [setRound_setRound, round_setRound_same, raiseRound_spelled]
  rfl

/-- The data of BIND by the port's new state. -/
theorem bindData_waiting {t : State} (h : (t.port p).state = .waiting q) :
    bindData t p q = [1, 0xFF, 0, yesNo (t.round q).held] := by
  simp [bindData, sideReadByte, sideRead, h, PortState.reads, PortState.code, byte]

theorem bindData_reading {t : State} (h : (t.port p).state = .reading q) :
    bindData t p q = [2, (t.round q).fillSide.flip.code, byte (t.round q).other.length, yesNo (t.round q).held] := by
  simp [bindData, sideReadByte, sideRead, h, PortState.reads, PortState.code]

theorem bindData_exhausted {t : State} (h : (t.port p).state = .exhausted q) :
    bindData t p q = [3, (t.round q).fillSide.flip.code, byte (t.round q).other.length, yesNo (t.round q).held] := by
  simp [bindData, sideReadByte, sideRead, h, PortState.reads, PortState.code]

end Bind

/-- The letter of the side a port reads, as the statements spell it. -/
theorem flip_code_spelled (d : Side) : d.flip.code = match d with | .a => 1 | .b => 0 := by cases d <;> rfl

/-- Settles O38: the refusals in their order, then the three ways a bound port stands. -/
theorem bindOpensOrWaits : Obligations.BindOpensOrWaits := by
  intro s tag a b asked
  rw [exec_bind, exec_asked asked]
  refine ⟨fun stopped => ?_, fun running outOfRange => ?_, fun p q running port round => ?_⟩
  · simp only [bindRequest, State.isStopped_of_eq stopped]
    exact next_reply ..
  · have refused : bindRequest ⟨0x40, tag, [a, b]⟩ s = reply s ⟨0x40, tag, [a, b]⟩ .range [] := by
      simp only [bindRequest, State.isStopped_of_ne running]
      rcases outOfRange with noPort | noRound
      · simp only [index?_of_le (Nat.succ_le_of_lt noPort)]
        rfl
      · rw [index?_of_le (n := 64) (Nat.succ_le_of_lt noRound)]
        cases index? 4 a <;> rfl
    rw [refused]
    exact next_reply ..
  · intro x held letter
    simp only [bindRequest, State.isStopped_of_ne running, index?_of_eq port, index?_of_eq round]
    refine ⟨fun busy => ?_, fun unbound elsewhere => ?_, fun unbound free notSealed => ?_,
      fun unbound free isSealed entries => ?_, fun unbound free isSealed nothing => ?_⟩
    · rw [if_pos busy]
      exact next_reply ..
    · rw [if_neg (not_not.mpr unbound), if_pos (Option.isSome_iff_ne_none.mpr elsewhere)]
      exact next_reply ..
    all_goals
      rw [if_neg (not_not.mpr unbound), if_neg (show ¬ (s.round q).bound.isSome = true by rw [free]; decide)]
      refine (next_reply ..).trans ?_
    · rw [bindPort_waits notSealed, bindData_waiting (q := q) (by simp), round_setPort, round_setRound_same]
      rfl
    · rw [bindPort_opens isSealed entries, bindData_reading (q := q) (by simp), round_setPort, round_setRound_same,
        flip_code_spelled]
      rfl
    · have noEntries : byte (s.round q).other.length = 0 := by rw [nothing]; rfl
      rw [bindPort_spends isSealed nothing, bindData_exhausted (congrArg Port.state (port_setPort_same ..)), round_setNotices, round_setPort,
        round_setRound_same, flip_code_spelled]
      exact congrArg (fun n => (Host.Outcome.next (answeredWith _ 0x40 tag 0 [3, letter, n, held]) : Result)) noEntries

/-! ## REWIND and PORT GET (R147, R156) -/

theorem rewindPort_entries {s : State} {p : Fin 4} {q : Fin 64} (entries : (s.round q).other ≠ []) :
    rewindPort s p q = (s.setRound q { s.round q with otherState := .opened }).setPort p ⟨.reading q, 0, 0, false⟩ :=
  if_neg entries

theorem rewindPort_empty {s : State} {p : Fin 4} {q : Fin 64} (nothing : (s.round q).other = [])
    (exhausted : (s.port p).state = .exhausted q) :
    rewindPort s p q = s.setPort p ⟨.exhausted q, 0, 0, false⟩ := by
  rw [rewindPort, if_pos nothing, exhausted]

/-- Settles O40: REWIND by the port's state; PORT GET by the port's state. -/
theorem rewindAndPortGet : Obligations.RewindAndPortGet := by
  refine ⟨fun s tag a asked => ?_, fun s tag a asked => ?_⟩
  · rw [exec_rewind, exec_asked asked]
    refine ⟨fun stopped => ?_, fun running outOfRange => ?_, fun p running port => ?_⟩
    · simp only [rewindRequest, State.isStopped_of_eq stopped]
      exact next_reply ..
    · simp only [rewindRequest, State.isStopped_of_ne running, index?_of_le (Nat.succ_le_of_lt outOfRange)]
      exact next_reply ..
    · simp only [rewindRequest, State.isStopped_of_ne running, index?_of_eq port]
      refine ⟨fun unbound => ?_, fun q waiting => ?_, fun q reads entries => ?_, fun q exhausted nothing => ?_⟩
      · simp only [unbound]
        exact next_reply ..
      · simp only [waiting]
        exact next_reply ..
      · rw [← rewindPort_entries entries]
        rcases reads with reading | exhausted
        · simp only [reading]
          exact next_reply ..
        · simp only [exhausted]
          exact next_reply ..
      · rw [← rewindPort_empty nothing exhausted]
        simp only [exhausted]
        exact next_reply ..
  · rw [exec_portGet, exec_asked asked]
    refine ⟨fun outOfRange => ?_, fun p port => ?_⟩
    · simp only [portGetRequest, index?_of_le (Nat.succ_le_of_lt outOfRange)]
      exact next_reply ..
    · intro x idling reading
      have answered : portGetRequest ⟨0x45, tag, [a]⟩ s = reply s ⟨0x45, tag, [a]⟩ .ok (portData s p) := by
        simp only [portGetRequest, index?_of_eq port]
      rw [answered, next_reply]
      refine ⟨fun unbound => ?_, fun q waiting => ?_, fun q isReading => ?_, fun q exhausted => ?_⟩
      · have unbound : (s.port p).state = .unbound := unbound
        simp only [portData, sideRead, sideReadByte, unbound, PortState.reads, PortState.round, PortState.code]
        simp
        rfl
      · have waiting : (s.port p).state = .waiting q := waiting
        simp only [portData, sideRead, sideReadByte, waiting, PortState.reads, PortState.round, PortState.code]
        simp
        rfl
      · have isReading : (s.port p).state = .reading q := isReading
        simp only [portData, sideRead, sideReadByte, isReading, PortState.reads, PortState.round, PortState.code, flip_code_spelled, countP_marked]
        rfl
      · have exhausted : (s.port p).state = .exhausted q := exhausted
        simp only [portData, sideRead, sideReadByte, exhausted, PortState.reads, PortState.round, PortState.code, flip_code_spelled, countP_marked]
        rfl

/-! ## UNBIND and the draw timer (R149, R152) -/

/-- The side that a port reads given back, as the statements spell it. -/
theorem returnSide_spelled (s : State) (p : Fin 4) (q : Fin 64) :
    let marked := ((s.round q).other.filter fun e => e.mark ≠ .none).length
    let unmarked := (s.round q).other.filter fun e => e.mark = .none
    returnSide s p q = ((((s.setRound q { s.round q with
      otherState := .sealed, other := unmarked, bound := none }).setFree (s.free + marked)).setPort p
        ⟨.unbound, 0, 0, false⟩), marked, unmarked.length) := by
  intro marked unmarked
  have rest : ((s.round q).other.filter fun e => !e.marked) = unmarked :=
    List.filter_congr fun e _ => by simp [Entry.marked]
  simp only [returnSide, looseEnds, rest, countP_marked]
  refine Prod.ext ?_ rfl
  simp only [round_setFree, round_setRound_same]
  apply State.ext_fields <;> simp [State.setRound, Vec.put_put, marked]

/-- Settles O41: UNBIND by the port's state; the draw timer by whether an expiry is owed. -/
theorem unbindAndExpiryReturnSide : Obligations.UnbindAndExpiryReturnSide := by
  intro s p free marked unmarked returned
  refine ⟨fun tag a asked => ?_, fun high => ⟨fun notOwed => ?_, fun q owed reads => ?_⟩⟩
  · rw [exec_unbind, exec_asked asked]
    refine ⟨fun outOfRange => ?_, fun port => ?_⟩
    · simp only [unbindRequest, index?_of_le (Nat.succ_le_of_lt outOfRange)]
      exact next_reply ..
    · simp only [unbindRequest, index?_of_eq port]
      refine ⟨fun unbound => ?_, fun q waiting => ?_, fun q reads => ?_⟩
      · simp only [unbindPort, unbound]
        exact next_reply ..
      · simp only [unbindPort, waiting]
        exact next_reply ..
      · have back : unbindPort s p = (returned q, marked q, (unmarked q).length) := by
          rw [← returnSide_spelled]
          rcases reads with reading | exhausted
          · simp only [unbindPort, reading]
          · simp only [unbindPort, exhausted]
        rw [back]
        exact next_reply ..
  · rw [exec_drawTimerExpiry, dif_pos p.isLt, event_high _ high]
    simp only [takeExpiry, Fin.eta, notOwed]
    rfl
  · have side : (s.port p).state.reads = some q := by
      rcases reads with reading | exhausted
      · rw [reading, PortState.reads]
      · rw [exhausted, PortState.reads]
    rw [exec_drawTimerExpiry, dif_pos p.isLt, event_high _ high]
    simp only [takeExpiry, Fin.eta, owed, if_true, side, expirePort, returnSide_spelled]
    rfl

end Sys2Proof.Machine
end

section
/-! PROOFS. DRAW (O39). -/

namespace Sys2Proof.Machine

/-! ## The one unmarked entry of a slot (R106) -/

section OneEntry

variable {s : State} {q u : Fin 64} {e : Entry} {front back : List Entry}

/-- Two rounds together hold no more unmarked entries of a slot than all rounds. -/
theorem count_two_rounds (m : Entry → Bool) (other : u ≠ q) :
    (s.round q).entries.countP m + (s.round u).entries.countP m ≤ s.total m := by
  rw [total_eq_sum, ← Finset.sum_pair (f := fun v => (s.round v).entries.countP m) (Ne.symm other)]
  exact Finset.sum_le_univ_sum_of_nonneg fun _ => Nat.zero_le _

theorem count_one_round (m : Entry → Bool) : (s.round q).entries.countP m ≤ s.total m := by
  rw [total_eq_sum]
  exact Finset.single_le_sum (f := fun v => (s.round v).entries.countP m) (fun _ _ => Nat.zero_le _) (Finset.mem_univ q)

theorem entryAt_counted {i : Nat} {l : List Entry} (h : entryAt i l front e back) :
    0 < l.countP (Entry.unmarkedAt i) := by
  obtain ⟨rfl, mark, slot, -⟩ := h
  exact List.countP_pos_iff.mpr ⟨e, by simp, (unmarkedAt_iff _ _).mpr ⟨mark, slot⟩⟩

/-- An unmarked entry on a side that is not FILL is the one that the detaching claims find. -/
theorem entryAt_other (law : UnmarkedLaw s) (side : (s.round q).other = front ++ e :: back) (unmarked : e.mark = .none) :
    locate s.rounds e.slot = some (q, .other) ∧ entryAt e.slot (s.round q).other front e back := by
  have named : e.unmarkedAt e.slot = true := (unmarkedAt_iff _ _).mpr ⟨unmarked, rfl⟩
  have here := (count_one_round (s := s) (q := q) (Entry.unmarkedAt e.slot)).trans (law e.slot)
  rw [Round.countP_entries, side, List.countP_append, List.countP_cons, if_pos named] at here
  have notBefore : ∀ x ∈ front, ¬ (x.mark = .none ∧ x.slot = e.slot) := by
    intro x mem bad
    have : 0 < front.countP (Entry.unmarkedAt e.slot) :=
      List.countP_pos_iff.mpr ⟨x, mem, (unmarkedAt_iff _ _).mpr bad⟩
    omega
  refine ⟨?_, side, unmarked, rfl, notBefore⟩
  have onlyHere : ∀ v w, locate s.rounds e.slot = some (v, w) → (v, w) = (q, .other) := by
    intro v w found
    obtain ⟨before, x, after, entry⟩ := entryAt_of_locate found
    by_cases same : v = q
    · subst same
      cases w with
      | fill =>
        have counted : 0 < (s.round v).fill.countP (Entry.unmarkedAt e.slot) := entryAt_counted entry
        omega
      | other => rfl
    · have both := (count_two_rounds (s := s) (Entry.unmarkedAt e.slot) same).trans (law e.slot)
      rw [Round.countP_entries, Round.countP_entries, side, List.countP_append, List.countP_cons, if_pos named] at both
      cases w with
      | fill =>
        have counted : 0 < (s.round v).fill.countP (Entry.unmarkedAt e.slot) := entryAt_counted entry
        omega
      | other =>
        have counted : 0 < (s.round v).other.countP (Entry.unmarkedAt e.slot) := entryAt_counted entry
        omega
  cases found : locate s.rounds e.slot with
  | none =>
    refine absurd ((locate_none_iff s e.slot).mp found q e ?_) (not_not.mpr ⟨unmarked, rfl⟩)
    simp [side]
  | some place => exact congrArg some (onlyHere _ _ found)

end OneEntry

/-! ## DRAW (R143–R146) -/

section Draw

variable {s : State} {p : Fin 4} {q : Fin 64} {n : Nat} {r : Request}

theorem fillNow_spelled (t : BinTable) (e : Entry) : fillNow t e = currentFill t e := by
  unfold fillNow currentFill Entry.marked
  cases t.get e.slot <;> simp

theorem moveCursor_within {c : Nat} (h : c < (s.round q).other.length) :
    moveCursor s p q c = s.setPort p ⟨.reading q, c, 0, false⟩ := if_neg (Nat.not_le.mpr h)

theorem moveCursor_end {c : Nat} (h : (s.round q).other.length ≤ c) :
    moveCursor s p q c = ((s.setRound q { s.round q with otherState := .spent }).setPort p
      ⟨.exhausted q, c, 0, false⟩).setNotices (roundSet s.notices q .emptied) := by
  rw [moveCursor, if_pos h, raiseRound_spelled]
  rfl

/-- A failed check code withdraws the slot's entry from the sheets (R24). -/
theorem storeError_withdrawn (s : State) (i : Nat) : entryWithdrawn s (storeError s i) i :=
  entryWithdrawn_congr (by simp) (by simp) (detach_withdrawn _ i)

/-- A DRAW whose claims all verify. -/
theorem drawEntries_verified {part : List Entry} {c : Nat}
    (hpart : part = ((s.round q).other.drop (s.port p).cursor).take n) (hc : c = (s.port p).cursor + part.length)
    (h : ∀ e ∈ part, e.mark = .none → ∀ r d, s.table.get e.slot = .live r d → d = 0) :
    drawEntries s r p q n = reply (moveCursor s p q c) r .ok
      ([byte part.length] ++ be16 ((s.round q).other.length - c) ++
        part.flatMap fun e => e.bytes (currentFill s.table e)) := by
  subst hc
  simp only [drawEntries, ← hpart, readEntries_verified _ _ h, fillNow_spelled]
  rfl

/-- A DRAW that ends at a failed check code. -/
theorem drawEntries_fails {before after : List Entry} {e : Entry} {x : BinRecord} {d : Word16}
    (hpart : before ++ e :: after = ((s.round q).other.drop (s.port p).cursor).take n)
    (h : ∀ e ∈ before, e.mark = .none → ∀ r d, s.table.get e.slot = .live r d → d = 0)
    (unmarked : e.mark = .none) (live : s.table.get e.slot = .live x d) (failed : d ≠ 0) :
    drawEntries s r p q n = reply (storeError s e.slot) r .stopped [] := by
  simp only [drawEntries, ← hpart, readEntries_fails _ before after e x d h unmarked live failed]

end Draw

/-- Settles O39: the refusals in their order, then DRAW by the port's state and by what the claims find; the bytes of an
entry field by field. -/
theorem drawReturnsEntries : Obligations.DrawReturnsEntries := by
  refine ⟨fun s tag a n asked => ?_, fun e current => ?_⟩
  · rw [exec_draw, exec_asked asked]
    refine ⟨fun stopped => ?_, fun running outOfRange => ?_, fun running port bad => ?_,
      fun p running port positive small => ?_⟩
    · simp only [drawRequest, State.isStopped_of_eq stopped]
      exact next_reply ..
    · simp only [drawRequest, State.isStopped_of_ne running, index?_of_le (Nat.succ_le_of_lt outOfRange)]
      exact next_reply ..
    · have known := index?_of_eq (n := 4) (b := a) (i := ⟨a.toNat, by omega⟩) rfl
      simp only [drawRequest, State.isStopped_of_ne running, known]
      rw [if_pos bad]
      exact next_reply ..
    · have good : ¬ (n.toNat = 0 ∨ 32 < n.toNat) := by omega
      refine ⟨fun unbound => ?_, fun q waiting => ?_, fun q exhausted => ?_, fun q reading => ?_⟩
      · simp only [drawRequest, State.isStopped_of_ne running, index?_of_eq port, if_neg good, unbound]
        exact next_reply ..
      · simp only [drawRequest, State.isStopped_of_ne running, index?_of_eq port, if_neg good, waiting]
        exact next_reply ..
      · have answered : drawRequest ⟨0x42, tag, [a, n]⟩ s =
            reply (s.setPort p (s.port p).used) ⟨0x42, tag, [a, n]⟩ .ok (0 :: be16 0) := by
          simp only [drawRequest, State.isStopped_of_ne running, index?_of_eq port, if_neg good, exhausted]
          rfl
        rw [answered]
        exact next_reply ..
      · intro l part c data
        have answered : drawRequest ⟨0x42, tag, [a, n]⟩ s = drawEntries s ⟨0x42, tag, [a, n]⟩ p q n.toNat := by
          simp only [drawRequest, State.isStopped_of_ne running, index?_of_eq port, if_neg good, reading]
          rfl
        rw [answered]
        refine ⟨fun verified => ⟨fun within => ?_, fun atEnd => ?_⟩,
          fun before e after r d split unmarked live failed earlier => ⟨?_, ?_, fun law opened front back side => ?_⟩⟩
        · rw [← moveCursor_within within]
          exact (congrArg _ (drawEntries_verified rfl rfl verified)).trans (next_reply ..)
        · rw [← moveCursor_end atEnd]
          exact (congrArg _ (drawEntries_verified rfl rfl verified)).trans (next_reply ..)
        · exact (congrArg _ (drawEntries_fails split.symm earlier unmarked live failed)).trans (next_reply ..)
        · simp
        · obtain ⟨found, entry⟩ := entryAt_other law side unmarked
          obtain ⟨-, -, read⟩ := storeError_withdrawn s e.slot
          obtain ⟨-, marked⟩ := read q front e back found entry
          rw [State.round, (marked (.inl opened)).1, Vec.get_put_same]
  · unfold Entry.bytes fillByte epochBytes EntryClass.code Mark.code
    cases e.cls <;> cases e.crossing <;> rfl

end Sys2Proof.Machine
end

section
/-! PROOFS. The visits of the Sweep Engine (O44, O45). -/

namespace Sys2Proof.Machine

/-! ## A visit (R159, R161, R166, R167) -/

section Visit

variable {s : State} {i : Nat}

theorem sweepVisit_idle (idle : s.sweep.running = false) : sweepVisit s = s := by simp [sweepVisit, idle]

theorem sweepVisit_running (running : s.sweep.running = true) :
    sweepVisit s = walked (visitSlot s s.sweep.cursor) s.sweep.cursor := by
  simp only [sweepVisit, running, if_true, endVisit_spelled]

theorem visitSlot_passed (h : s.table.get i = .empty ∨ s.table.get i = .damaged) : visitSlot s i = s := by
  rcases h with h | h <;> simp only [visitSlot, h]

theorem visitSlot_tombstone (h : s.table.get i = .tombstone) : visitSlot s i =
    if s.table.get ((i + 1) % 8192) = .empty then
      (s.setTable (s.table.put i .empty)).setSweep { s.sweep with reclaimed := s.sweep.reclaimed + 1 }
    else s := by
  have asked : (s.table.get ((i + 1) % Config.slotCount)).isEmpty = true ↔ s.table.get ((i + 1) % 8192) = .empty := by
    show (s.table.get ((i + 1) % 8192)).isEmpty = true ↔ _
    cases s.table.get ((i + 1) % 8192) <;> simp [Slot.isEmpty]
  simp only [visitSlot, h]
  exact if_congr asked rfl rfl

theorem visitSlot_fails {r : BinRecord} {d : Word16} (h : s.table.get i = .live r d) (failed : d ≠ 0) :
    visitSlot s i = storeError s i := by
  simp only [visitSlot, h, if_pos failed]

theorem visitSlot_verified {r : BinRecord} (h : s.table.get i = .live r 0) : visitSlot s i = visitRecord s i r := by
  simp only [visitSlot, h]
  exact if_neg (not_not.mpr rfl)

end Visit

/-- Settles O44: the engine's state, then the slot's. -/
theorem sweepVisitsEmptySlots : Obligations.SweepVisitsEmptySlots := by
  intro s high
  rw [show exec .sweepVisit s = .next (sweepVisit s) from event_high _ high]
  refine ⟨fun idle => by rw [sweepVisit_idle idle], fun running => ?_⟩
  rw [sweepVisit_running running]
  refine ⟨fun passed => ?_, fun tombstone next => ?_, fun tombstone next => ?_, fun r d live failed => ?_⟩
  · rw [visitSlot_passed passed]
  · rw [visitSlot_tombstone tombstone, if_neg next]
  · rw [visitSlot_tombstone tombstone, if_pos next]
  · rw [visitSlot_fails live failed]

/-! ## The visit of a LIVE slot (R162–R165) -/

section LiveVisit

variable {p : Profile} {found : Bool} {x : BinRecord} {s : State} {i : Nat}

/-- The request of the retry, class by class. -/
theorem retryRequest_unplaced (unplaced : x.placement = .unplaced) (c : EntryClass) :
    retryRequest p x = .place c ↔ (x.state = .urgent ∧ c = .urgent) ∨ (x.state = .due ∧ c = .due) ∨
      ((x.state ≠ .urgent ∧ x.state ≠ .due) ∧ x.silent = true ∧ p.checkOnSilence = true ∧ c = .check) := by
  unfold retryRequest
  rw [if_pos unplaced]
  cases x.state <;> cases x.silent <;> cases p.checkOnSilence <;> simp [eq_comm]

/-- The classes that a visit asks a Place of. -/
theorem visitRequest_place_iff (c : EntryClass) :
    visitRequest p found x = .place c ↔
      (found = true ∧ p.checkOnSilence = true ∧ (x.state ≠ .urgent ∧ x.state ≠ .due) ∧ x.round ≠ none ∧ c = .check) ∨
      (x.placement = .unplaced ∧ ((x.state = .urgent ∧ c = .urgent) ∨ (x.state = .due ∧ c = .due) ∨
        ((x.state ≠ .urgent ∧ x.state ≠ .due) ∧ x.silent = true ∧ p.checkOnSilence = true ∧ c = .check))) := by
  unfold visitRequest
  split
  case isTrue newlySilent =>
    obtain ⟨isFound, checks, notDue, notUrgent, hasRound⟩ := newlySilent
    constructor
    · intro asked
      cases asked
      exact .inl ⟨isFound, checks, ⟨notUrgent, notDue⟩, hasRound, rfl⟩
    · rintro (⟨-, -, -, -, rfl⟩ | ⟨-, ⟨urgent, -⟩ | ⟨due, -⟩ | ⟨-, -, -, rfl⟩⟩)
      · rfl
      · exact absurd urgent notUrgent
      · exact absurd due notDue
      · rfl
  case isFalse notNewly =>
    have noCheck : ¬ (found = true ∧ p.checkOnSilence = true ∧ (x.state ≠ .urgent ∧ x.state ≠ .due) ∧ x.round ≠ none ∧
        c = .check) := fun ⟨isFound, checks, ⟨notUrgent, notDue⟩, hasRound, _⟩ =>
      notNewly ⟨isFound, checks, notDue, notUrgent, hasRound⟩
    rw [or_iff_right noCheck]
    by_cases unplaced : x.placement = .unplaced
    · rw [retryRequest_unplaced unplaced, and_iff_right unplaced]
    · simp [retryRequest, unplaced]

/-- A visit that asks no Place withdraws an UNPLACED bin and else asks nothing. -/
theorem visitRequest_other (noPlace : ∀ c, visitRequest p found x ≠ .place c) :
    visitRequest p found x = if x.placement = .unplaced then .withdraw else .nothing := by
  cases asked : visitRequest p found x with
  | place c => exact absurd asked (noPlace c)
  | withdraw =>
    unfold visitRequest retryRequest at asked
    split at asked
    · cases asked
    · split at asked
      · rename_i unplaced
        rw [if_pos unplaced]
      · cases asked
  | nothing =>
    unfold visitRequest retryRequest at asked
    split at asked
    · cases asked
    · split at asked
      · repeat' split at asked
        all_goals cases asked
      · rename_i notUnplaced
        rw [if_neg notUnplaced]

theorem foundSilent_iff (epoch : Word32) : foundSilent p epoch x = true ↔
    x.silent = false ∧ p.silenceLimit ≤ (epoch - x.heardEpoch).toNat := by
  simp [foundSilent]

/-- The visit by what the silence test says: the record and the state it goes on with, and the one request. -/
theorem visitRecord_eq (silent : Bool) (u : State)
    (isFound : foundSilent (Vec.get s.profiles x.profile) s.time.epoch x = true →
      silent = true ∧ u = silenceBin s i x)
    (notFound : foundSilent (Vec.get s.profiles x.profile) s.time.epoch x = false → silent = x.silent ∧ u = s) :
    visitRecord s i x = makeVisitRequest u i { x with silent := silent }
      (visitRequest (Vec.get s.profiles x.profile) (foundSilent (Vec.get s.profiles x.profile) s.time.epoch x)
        { x with silent := silent }) := by
  unfold visitRecord
  dsimp only
  cases test : foundSilent (Vec.get s.profiles x.profile) s.time.epoch x with
  | true =>
    obtain ⟨rfl, rfl⟩ := isFound test
    rfl
  | false =>
    obtain ⟨rfl, rfl⟩ := notFound test
    rfl

end LiveVisit

/-- Settles O45: the request that the visit makes, and what the Place answers. -/
theorem sweepVisitsLiveSlots : Obligations.SweepVisitsLiveSlots := by
  intro s i r high running cursor live p found calm silent u ifFound ifNot uFound uNot y asks wrote
  have test : foundSilent p s.time.epoch r = true ↔ found := foundSilent_iff _
  have visited : exec .sweepVisit s =
      .next (walked (makeVisitRequest u i y (visitRequest p (foundSilent p s.time.epoch r) y)) i) := by
    rw [show exec .sweepVisit s = .next (sweepVisit s) from event_high _ high, sweepVisit_running running, cursor,
      visitSlot_verified live, visitRecord_eq silent u (fun h => ⟨ifFound (test.mp h), uFound (test.mp h)⟩) fun h => ?_]
    have notFound : ¬ found := fun f => by rw [test.mpr f] at h; cases h
    exact ⟨ifNot notFound, uNot notFound⟩
  have asked : ∀ c, visitRequest p (foundSilent p s.time.epoch r) y = .place c ↔ asks c := by
    intro c
    rw [visitRequest_place_iff, test]
  rw [visited]
  refine ⟨fun noPlace placement => ?_, fun noPlace placement => ?_, fun c asksPlace => ?_⟩
  · rw [visitRequest_other fun c h => noPlace c ((asked c).mp h), if_neg placement]
    rfl
  · rw [visitRequest_other fun c h => noPlace c ((asked c).mp h), if_pos placement]
    rfl
  · intro t
    rw [(asked c).mpr asksPlace]
    refine ⟨fun outcome => ?_, fun outcome => ?_, fun outcome => ?_⟩
    · simp only [makeVisitRequest, outcome]
      rfl
    · rcases outcome with outcome | outcome
      · simp only [makeVisitRequest, outcome]
        rfl
      · simp only [makeVisitRequest, outcome]
        rfl
    · simp only [makeVisitRequest, outcome]
      rfl

end Sys2Proof.Machine
end

section
/-! PROOFS. The planner link: downlink frames (O46), the request handler (O47), uplink frames and notices (O48). -/

namespace Sys2Proof.Machine

/-! ## Downlink frames (R175, R177) -/

section Receive

variable {s : State} {body : List Byte} {crc : Option Word16}

theorem receiveFrame_discarding (h : s.link.rx = .discarding) : receiveFrame body crc s = s := by
  simp only [receiveFrame, h]

/-- A frame of bad CRC, or with a body too short for a code and a tag, is counted. -/
theorem receiveFrame_bad (waiting : s.link.rx = .waiting) (short : body.length ≤ 600)
    (bad : crc ≠ some (linkCrc body) ∨ body.length < 3) : receiveFrame body crc s = countBadFrame s := by
  have fits : ¬ Config.bodyLimit < body.length := Nat.not_lt.mpr short
  simp only [receiveFrame, waiting, if_neg fits]
  by_cases wrong : crc ≠ some (linkCrc body)
  · rw [if_pos wrong]
  · rw [if_neg wrong]
    have tooShort := bad.resolve_left wrong
    match body with
    | [] => rfl
    | [_] => rfl
    | [_, _] => rfl
    | _ :: _ :: _ :: _ => exact absurd tooShort (by simp)

theorem receiveFrame_good {c h l : Byte} {operands : List Byte} (waiting : s.link.rx = .waiting)
    (short : body.length ≤ 600) (good : crc = some (linkCrc body)) (split : body = c :: h :: l :: operands) :
    receiveFrame body crc s = offerRequest s ⟨c, h ++ l, operands⟩ := by
  have fits : ¬ Config.bodyLimit < body.length := Nat.not_lt.mpr short
  have tag : BitVec.ofNat 16 (num16 h l) = h ++ l := by rw [num16_eq_append, BitVec.ofNat_toNat, BitVec.setWidth_eq]
  simp only [receiveFrame, waiting, if_neg fits, good, ne_eq, not_true_eq_false, if_false]
  subst split
  rw [← tag]

end Receive

/-- Settles O46: the frame at its last CRC byte by the receiver's state, the frame found bad before it, the idle line. -/
theorem downlinkFrames : Obligations.DownlinkFrames := by
  refine ⟨fun s body crc high waiting short => ?_, fun s body crc cause high discarding => ⟨?_, ?_⟩,
    fun s cause high waiting bad => ?_, fun s incomplete high => ⟨fun discarding => ?_, fun waiting partly => ?_,
      fun waiting complete => ?_⟩⟩
  · intro own badState
    have own_eq : own = linkCrc body := rfl
    rw [show exec (.linkFrameReceived body crc) s = .next (receiveFrame body crc s) from event_high _ high, own_eq]
    refine ⟨fun bad => ?_, fun c h l operands good split => ?_⟩
    · rw [receiveFrame_bad waiting short bad]
      rfl
    · rw [receiveFrame_good waiting short good split]
      refine ⟨fun room => ?_, fun full => ?_⟩
      · exact congrArg _ (if_pos room)
      · exact congrArg _ (if_neg (Nat.not_lt.mpr full))
  · rw [show exec (.linkFrameReceived body crc) s = .next (receiveFrame body crc s) from event_high _ high,
      receiveFrame_discarding discarding]
  · rw [show exec (.badFrameBeforeCrc cause) s = .next (badFrame cause s) from event_high _ high]
    simp only [badFrame, discarding]
  · have wellFormed : cause.wellFormed = true := by
      rcases bad with rfl | ⟨b, notOne, rfl⟩ | ⟨n, long, bounded, rfl⟩
      · rfl
      · simpa [BadCause.wellFormed] using notOne
      · have : Config.bodyLimit < n := long
        simp [BadCause.wellFormed, this, bounded]
    rw [show exec (.badFrameBeforeCrc cause) s = .next (badFrame cause s) from event_high _ high]
    simp only [badFrame, waiting, wellFormed, if_true]
    rfl
  · rw [show exec (.linkIdleTimeout incomplete) s = .next (idleTimeout incomplete s) from event_high _ high]
    simp only [idleTimeout, discarding]
  · rw [show exec (.linkIdleTimeout incomplete) s = .next (idleTimeout incomplete s) from event_high _ high]
    have counted : idleTimeout incomplete s = countBadFrame s := by simp only [idleTimeout, waiting, partly, if_true]
    rw [counted]
    rfl
  · rw [show exec (.linkIdleTimeout incomplete) s = .next (idleTimeout incomplete s) from event_high _ high]
    simp [idleTimeout, waiting, complete]

/-! ## The request handler (R178, R179) -/

/-- Looking up in a list whose keys are distinct finds each pair it holds. -/
theorem lookup_eq_some_iff_mem {l : List (Byte × Nat)} (distinct : (l.map Prod.fst).Nodup) (k : Byte) (n : Nat) :
    l.lookup k = some n ↔ (k, n) ∈ l := by
  induction l with
  | nil => simp
  | cons p l ih =>
    obtain ⟨key, length⟩ := p
    have distinct : key ∉ l.map Prod.fst ∧ (l.map Prod.fst).Nodup := List.nodup_cons.mp distinct
    by_cases same : k = key
    · subst same
      have absent : (k, n) ∉ l := fun mem => distinct.1 (List.mem_map_of_mem (f := Prod.fst) mem)
      simp [List.lookup, absent, eq_comm]
    · have other : (k == key) = false := by simpa using same
      simp [List.lookup, other, ih distinct.2, same]

theorem codesWithLengths_eq : codesWithLengths = requestLengths.map fun p => (p.1.toNat, p.2) := by decide

theorem operandLength_eq_some (code : Byte) (n : Nat) :
    operandLength code = some n ↔ (code.toNat, n) ∈ codesWithLengths := by
  rw [operandLength, lookup_eq_some_iff_mem (by decide), codesWithLengths_eq, List.mem_map]
  constructor
  · exact fun mem => ⟨_, mem, rfl⟩
  · rintro ⟨p, mem, same⟩
    obtain ⟨sameCode, rfl⟩ := Prod.mk.inj same
    rwa [← BitVec.eq_of_toNat_eq sameCode]

theorem operandLength_eq_none (code : Byte) :
    operandLength code = none ↔ ∀ n, (code.toNat, n) ∉ codesWithLengths := by
  simp only [Option.eq_none_iff_forall_ne_some, ne_eq, operandLength_eq_some]

theorem freePlace_iff (s : State) : freePlace s ↔ 1 ≤ s.link.freePlaces := by
  rw [le_freePlaces _ 1 (by decide)]
  rfl

/-- Settles O47: when a request is taken, its operands' length, and the unknown code. -/
theorem requestTakeAndUnknown : Obligations.RequestTakeAndUnknown := by
  refine ⟨fun s high => ?_, fun s code tag operands asked unknown => ?_⟩
  · rw [show exec .requestTake s = .next (takeRequest s) from event_high _ high]
    refine ⟨fun blocked => ?_, fun code tag operands rest idle free waiting => ?_⟩
    · unfold takeRequest
      split
      · rename_i ready
        obtain ⟨idle, free⟩ := ready
        have empty : s.link.downlink = [] :=
          (blocked.resolve_left (not_not.mpr idle)).resolve_right (not_not.mpr ((freePlace_iff s).mpr free))
        simp only [empty]
      · rfl
    · intro taken
      have takes : takeRequest s = takeOldest s ⟨code, tag, operands⟩ rest := by
        simp only [takeRequest, if_pos (And.intro idle ((freePlace_iff s).mp free)), waiting]
      rw [takes]
      refine ⟨fun fits => ?_, fun n known other => ?_⟩
      · rcases fits with unknown | known
        · simp only [takeOldest, (operandLength_eq_none code).mpr unknown]
          rfl
        · have fits : takeOldest s ⟨code, tag, operands⟩ rest = taken := by
            simp only [takeOldest, (operandLength_eq_some code _).mpr known, if_true]
            rfl
          rw [fits]
      · simp only [takeOldest, (operandLength_eq_some code n).mpr known]
        rw [if_neg (Ne.symm other)]
        exact next_reply ..
  · obtain ⟨high, taken⟩ := asked
    rw [show exec .unknownRequest s = .next (answerUnknown s) from event_high _ high]
    simp only [answerUnknown, taken, (operandLength_eq_none code).mpr unknown, if_true]
    exact next_reply ..

/-! ## Uplink frames and notices (R176, R182) -/

theorem be32_zero : be32 0 = [0, 0, 0, 0] := rfl

/-- The notice of a status without a subject and a count. -/
theorem noticeFrame_plain {s : State} {i : StatusId} {code detail : Byte} (hcode : i.code = code)
    (hdetail : s.noticeDetail i = detail) (subject : s.notices.subject i = be32 0)
    (count : s.notices.sinceCount i = 0) :
    noticeFrame s i = ⟨.notice, [code, detail, 0, 0, 0, 0, 0, 0, 0, 0] ++ be32 s.time.epoch.toNat⟩ := by
  rw [noticeFrame, hcode, hdetail, subject, count, be32_zero]
  rfl

/-- A notice built into a free place. -/
theorem buildNotice_next {s : State} {i : StatusId} {rest : List StatusId} (first : s.notices.list = i :: rest)
    (free : freePlace s) : buildNotice s = (s.setLink { s.link with
      uplink := s.link.uplink ++ [noticeFrame s i] }).setNotices { s.notices with list := rest } := by
  simp only [buildNotice, first, if_pos ((freePlace_iff s).mp free)]

/-- Settles O48: the frame sent, its bytes, and the notice of each status. -/
theorem uplinkFrameAndNotice : Obligations.UplinkFrameAndNotice := by
  refine ⟨fun s high => ?_, fun f => ?_, fun s high => ?_⟩
  · rw [show exec .uplinkFrameSent s = .next (frameSent s) from event_high _ high]
    refine ⟨fun empty => ?_, fun f rest queue => ?_⟩
    · simp only [frameSent, empty]
    · simp only [frameSent, queue]
  · cases f with | mk kind body => cases kind <;> rfl
  · rw [show exec .noticeBuild s = .next (buildNotice s) from event_high _ high]
    refine ⟨fun blocked => ?_, fun i rest first free => ?_⟩
    · rcases blocked with empty | full
      · simp only [buildNotice, empty]
      · have noPlace : ¬ 1 ≤ s.link.freePlaces := fun h => full ((freePlace_iff s).mpr h)
        cases list : s.notices.list with
        | nil => simp only [buildNotice, list]
        | cons i rest => simp only [buildNotice, list, if_neg noPlace]
    · intro built
      rw [buildNotice_next first free]
      refine ⟨?_, ?_, ?_, ?_, ?_, ?_, ?_⟩
      · rintro q rfl
        rw [noticeFrame_plain (code := 1) (detail := byte q.val) rfl rfl rfl rfl]
      · rintro q rfl
        rw [noticeFrame_plain (code := 2) (detail := byte q.val) rfl rfl rfl rfl]
      · rintro q rfl
        rw [noticeFrame_plain (code := 3) (detail := byte q.val) rfl rfl rfl rfl]
      · rintro k rfl
        rfl
      · rintro c rfl cause
        have detail : s.noticeDetail .held = c.code := by rw [State.noticeDetail, cause]; rfl
        rw [noticeFrame_plain (code := 5) rfl detail rfl rfl]
      · rintro rfl
        rw [noticeFrame_plain (code := 6) (detail := 0) rfl rfl rfl rfl]
      · rintro n rfl slot
        have subject : s.notices.subject .stopped = be32 n := by rw [Notices.subject, slot]; rfl
        have count : s.notices.sinceCount .stopped = 0 := rfl
        rw [noticeFrame, subject, count, be32_zero, List.append_assoc, List.append_assoc]
        simp only [built, List.append_assoc]
        rfl

end Sys2Proof.Machine
end

section
/-! PROOFS. STATUS and COUNTERS (O50). -/

namespace Sys2Proof.Machine

/-! ## STATUS (R185) -/

section StatusItems

variable {s : State}

theorem flagBits_spelled (a b c : Bool) : flagBits a b c =
    (if a then 1 else 0) + 2 * (if b then 1 else 0) + 4 * (if c then 1 else 0) := by
  cases a <;> cases b <;> cases c <;> rfl

theorem deviceBytes_spelled (s : State) : s.notices.deviceBytes = statusText s .deviceStatuses := by
  simp only [Notices.deviceBytes, flagBits_spelled, statusText]
  cases s.notices.heldCause <;> cases s.notices.stoppedSlot <;> rfl

/-- An item as it stands while the request handler has a request in hand. -/
theorem statusItem_spelled (busy : s.link.handler ≠ .idle) (i : StatusItem) : statusItem s i = statusText s i := by
  cases i with
  | intakeState =>
    simp only [statusItem, statusText]
    cases s.intake.state <;> rfl
  | stoppedIndication =>
    simp only [statusItem, statusText, State.isStopped]
    cases s.intake.state <;> rfl
  | uplinkQueue =>
    have reserved : s.link.reserved = true := by
      unfold Link.reserved
      split
      · contradiction
      · rfl
    simp only [statusItem, statusText, reserved]
    rfl
  | deviceStatuses => exact deviceBytes_spelled s
  | _ => rfl

/-- The items do not show which request is in hand. -/
theorem statusText_setHandler (h : Handler) (i : StatusItem) :
    statusText (s.setLink { s.link with handler := h }) i = statusText s i := by
  cases i <;> rfl

theorem inOrderOfStatus_eq (text : StatusItem → List Byte) : inOrderOfStatus text = allStatusItems.flatMap text := by
  simp [inOrderOfStatus, allStatusItems]

/-- What a waiting STATUS gives for an item: as read before, else as it stands. -/
theorem readSoFar_spelled (got : StatusRead) (i : StatusItem) :
    (Vec.get got (statusPlace i)).getD (statusText s i) =
      match Vec.get got (statusPlace i) with | some l => l | none => statusText s i := by
  cases Vec.get got (statusPlace i) <;> rfl

theorem readStatus_spelled {tag : Word16} {got : StatusRead} {items : List StatusItem}
    (reading : s.link.handler = .readingStatus tag got)
    (all : ∀ i, i ∈ items ∨ Vec.get got (statusPlace i) ≠ none) :
    readStatus items s = answeredWith s 0x90 tag 0
      (inOrderOfStatus fun i => (Vec.get got (statusPlace i)).getD (statusText s i)) := by
  have busy : s.link.handler ≠ .idle := by rw [reading]; exact fun h => nomatch h
  rw [readStatus_answers reading all, answer_spelled, inOrderOfStatus_eq]
  simp only [statusItem_spelled busy]
  rfl

/-- STATUS with no request of its own in hand. -/
theorem statusWork_other {items : List StatusItem} (notTaken : ∀ r, s.link.handler = .taken r → r.code ≠ 0x90#8)
    (notReading : ∀ tag got, s.link.handler ≠ .readingStatus tag got) : statusWork items s = s := by
  have begins : beginStatus s = s := by
    unfold beginStatus
    split
    · rename_i r taken
      rw [if_neg (notTaken r taken)]
    · rfl
  rw [statusWork, begins]
  unfold readStatus
  split
  · rename_i tag got reading
    exact absurd reading (notReading tag got)
  · rfl

end StatusItems

/-! ## COUNTERS (R186) -/

theorem countersData_spelled (s : State) : countersData s =
    (s.lane 0).bytes ++ (s.lane 1).bytes ++ (s.lane 2).bytes ++ (s.lane 3).bytes ++
      be32 s.link.badFrames.toNat ++ be32 s.link.droppedRequests.toNat ++ be32 s.link.relayLost.toNat ++
      be32 s.link.relaysSent.toNat ++ be32 s.emptyCutoffs.toNat ++ be32 s.sweep.overlaps.toNat := by
  have lanes : (allLanes.flatMap fun n => (s.lane n).bytes) =
      (s.lane 0).bytes ++ (s.lane 1).bytes ++ (s.lane 2).bytes ++ (s.lane 3).bytes := by
    rw [show allLanes = [0, 1, 2, 3] from rfl]
    simp
  rw [countersData, lanes]

/-- Settles O50: STATUS taken and STATUS in hand, complete and not; COUNTERS by its clear option. -/
theorem statusAndCounters : Obligations.StatusAndCounters := by
  refine ⟨fun s items high => ?_, fun s tag clear asked => ?_⟩
  · intro waits
    rw [show exec (.status items) s = .next (statusWork items s) from event_high _ high]
    refine ⟨fun tag taken => ?_, fun tag got reading => ?_, fun notTaken notReading => ?_⟩
    · have nothingRead : ∀ i, Vec.get (Vector.replicate 10 none : StatusRead) (statusPlace i) = none :=
        fun i => Vector.getElem_replicate _
      rw [statusWork_taken taken]
      refine ⟨fun all => ?_, fun ⟨i, absent⟩ =>
        ⟨_, congrArg _ (readStatus_waits rfl ⟨i, absent, nothingRead i⟩), fun i => ?_⟩⟩
      · rw [readStatus_spelled rfl fun i => .inl (all i)]
        simp only [nothingRead, Option.getD_none, statusText_setHandler]
        rfl
      · rw [readItems_get, nothingRead, Option.getD_none, statusItem_spelled (by simp),
          statusText_setHandler]
    · intro now
      have now_eq : ∀ i, (Vec.get got (statusPlace i)).getD (statusText s i) = now i := readSoFar_spelled got
      have busy : s.link.handler ≠ .idle := by rw [reading]; exact fun h => nomatch h
      rw [statusWork_reading reading]
      refine ⟨fun all => ?_, fun someLeft => ⟨_, congrArg _ (readStatus_waits reading someLeft), fun i => ?_⟩⟩
      · rw [readStatus_spelled reading all]
        simp only [now_eq]
      · rw [readItems_get, statusItem_spelled busy, now_eq]
        by_cases given : i ∈ items
        · rw [if_pos given, if_pos (.inl given)]
        · rw [if_neg given]
          cases read : Vec.get got (statusPlace i) with
          | none => rw [if_neg (by simp [given])]
          | some l => rw [if_pos (.inr (by simp)), ← now_eq, read, Option.getD_some]
    · rw [statusWork_other notTaken notReading]
  · intro lane data
    have counters : countersData s = data := countersData_spelled s
    rw [exec_counters, exec_asked asked]
    refine ⟨fun outOfRange => ?_, fun no => ?_, fun yes => ⟨zeroCounters s, ?_, ?_, ?_⟩⟩
    · simp only [countersRequest, yesNo?_of_lt outOfRange]
      exact next_reply ..
    · subst no
      rw [← counters]
      exact next_reply ..
    · subst yes
      rw [← counters]
      exact next_reply ..
    · intro m
      exact Vec.get_map ..
    · rfl

end Sys2Proof.Machine
end

section
/-! PROOFS. NOTICE ENABLE and NOTICE CLEAR (O49): what one write does to each status and to the list, then the writes of a
request in a row. -/

namespace Sys2Proof.Machine

/-! ## One status (R181–R184) -/

theorem Kind.idx_injective {k l : Kind} (h : k.idx = l.idx) : k = l := by
  have found := kind?_idx k
  rw [h, kind?_idx l] at found
  exact (Option.some.inj found).symm

theorem roundFlag_putRoundFlag (n : Notices) (q r : Fin 64) (w v : RoundStatus) (x : Flag) :
    (n.putRoundFlag q w x).roundFlag r v = if q = r ∧ w = v then x else n.roundFlag r v := by
  unfold Notices.roundFlag Notices.putRoundFlag
  rw [Vec.get_put]
  by_cases sameRound : q = r
  · subst sameRound
    cases w <;> cases v <;> simp [RoundFlags.put, RoundFlags.get]
  · simp [sameRound]

section One

variable (n : Notices) (i j : StatusId) (on : Bool)

theorem cancel_isSet : (n.cancel i).isSet j = n.isSet j := by cases j <;> rfl

theorem cancel_isEnabled : (n.cancel i).isEnabled j = n.isEnabled j := by cases j <;> rfl

theorem owe_isSet : (n.owe i).isSet j = n.isSet j := by
  unfold Notices.owe
  split
  · rfl
  · cases j <;> rfl

theorem owe_isEnabled : (n.owe i).isEnabled j = n.isEnabled j := by
  unfold Notices.owe
  split
  · rfl
  · cases j <;> rfl

theorem putEnable_isSet : (n.putEnable on i).isSet j = n.isSet j := by
  cases i with
  | round q w =>
    cases j with
    | round r v =>
      simp only [Notices.putEnable, Notices.isSet, roundFlag_putRoundFlag]
      split
      · rename_i same
        rw [same.1, same.2]
      · rfl
    | _ => rfl
  | cond k => rfl
  | _ => cases j <;> rfl

/-- The enable of a status other than a condition's is as written. -/
theorem putEnable_isEnabled (notCond : ∀ k, i ≠ .cond k) :
    (n.putEnable on i).isEnabled j = if j = i then on else n.isEnabled j := by
  cases i with
  | round q w =>
    cases j with
    | round r v =>
      simp only [Notices.putEnable, Notices.isEnabled, roundFlag_putRoundFlag, StatusId.round.injEq]
      split
      · rename_i same
        rw [if_pos ⟨same.1.symm, same.2.symm⟩]
      · rename_i other
        rw [if_neg fun same => other ⟨same.1.symm, same.2.symm⟩]
    | _ => simp [Notices.putEnable, Notices.isEnabled, Notices.putRoundFlag]
  | cond k => exact absurd rfl (notCond k)
  | _ => cases j <;> simp [Notices.putEnable, Notices.isEnabled, Notices.roundFlag]

/-- What an enable leaves of the Notice Unit: the condition statuses and the data of HELD and STOPPED. -/
def Notices.sameData (n m : Notices) : Prop :=
  m.conds = n.conds ∧ m.heldCause = n.heldCause ∧ m.stoppedSlot = n.stoppedSlot

theorem putEnable_sameData : n.sameData (n.putEnable on i) := by cases i <;> exact ⟨rfl, rfl, rfl⟩

theorem putEnable_list : (n.putEnable on i).list = n.list := by cases i <;> rfl

theorem enable_isSet : (n.enable i on).isSet j = n.isSet j := by
  unfold Notices.enable
  split
  · rfl
  · split
    · split
      · rw [owe_isSet, putEnable_isSet]
      · exact putEnable_isSet ..
    · rw [cancel_isSet, putEnable_isSet]

theorem enable_isEnabled (notCond : ∀ k, i ≠ .cond k) :
    (n.enable i on).isEnabled j = if j = i then on else n.isEnabled j := by
  unfold Notices.enable
  split
  · rename_i already
    split
    · rename_i same
      rw [same, already]
    · rfl
  · split
    · split
      · rw [owe_isEnabled, putEnable_isEnabled _ _ _ _ notCond]
      · exact putEnable_isEnabled _ _ _ _ notCond
    · rw [cancel_isEnabled, putEnable_isEnabled _ _ _ _ notCond]

theorem enable_sameData : n.sameData (n.enable i on) := by
  have put := putEnable_sameData n i on
  unfold Notices.enable Notices.owe
  repeat' split
  · exact ⟨rfl, rfl, rfl⟩
  all_goals exact put

/-- A status newly enabled while it is set joins the list; one newly disabled leaves it (R183). -/
theorem enable_list : (n.enable i on).list =
    (n.list.filter fun j => ¬ (j = i ∧ n.isEnabled i = true ∧ on = false)) ++
      if n.isEnabled i = false ∧ on = true ∧ n.isSet i = true ∧ i ∉ n.list then [i] else [] := by
  unfold Notices.enable Notices.owe Notices.cancel
  cases enabled : n.isEnabled i <;> cases on <;> cases set : n.isSet i <;> by_cases listed : i ∈ n.list <;>
    simp [putEnable_list, listed]

/-! ## Clearing one status (R184) -/

theorem clear_isEnabled : (n.clear i).isEnabled j = n.isEnabled j := by
  cases i with
  | round q w =>
    rw [Notices.clear, cancel_isEnabled]
    cases j with
    | round r v =>
      simp only [Notices.isEnabled, roundFlag_putRoundFlag]
      split
      · rename_i same
        rw [same.1, same.2]
      · rfl
    | _ => rfl
  | _ => cases j <;> rfl

theorem clear_isSet : (n.clear i).isSet j = if j = i then false else n.isSet j := by
  cases i with
  | round q w =>
    rw [Notices.clear, cancel_isSet]
    cases j with
    | round r v =>
      simp only [Notices.isSet, roundFlag_putRoundFlag, StatusId.round.injEq]
      split
      · rename_i same
        rw [if_pos ⟨same.1.symm, same.2.symm⟩]
      · rename_i other
        rw [if_neg fun same => other ⟨same.1.symm, same.2.symm⟩]
    | _ => simp [Notices.isSet, Notices.putRoundFlag]
  | cond k =>
    rw [Notices.clear, cancel_isSet]
    cases j with
    | cond l =>
      simp only [Notices.isSet, Vec.get_put, StatusId.cond.injEq]
      by_cases same : l = k
      · rw [same, if_pos rfl, if_pos rfl]
      · rw [if_neg fun h => same (Kind.idx_injective h).symm, if_neg same]
    | _ => simp [Notices.isSet, Notices.roundFlag]
  | _ => cases j <;> simp [Notices.clear, Notices.cancel, Notices.isSet, Notices.roundFlag]

theorem clear_list : (n.clear i).list = n.list.filter fun j => j ≠ i := by cases i <;> rfl

theorem clear_cond (k : Kind) : Vec.get (n.clear i).conds k.idx =
    if .cond k = i then ⟨false, none, 0⟩ else Vec.get n.conds k.idx := by
  cases i with
  | cond l =>
    simp only [Notices.clear, Notices.cancel, Vec.get_put, StatusId.cond.injEq]
    by_cases same : k = l
    · rw [same, if_pos rfl, if_pos rfl]
    · rw [if_neg fun h => same (Kind.idx_injective h).symm, if_neg same]
  | _ => simp [Notices.clear, Notices.cancel, Notices.putRoundFlag]

theorem clear_heldCause : (n.clear i).heldCause = if .held = i then none else n.heldCause := by
  cases i <;> simp [Notices.clear, Notices.cancel, Notices.putRoundFlag]

theorem clear_stoppedSlot : (n.clear i).stoppedSlot = if .stopped = i then none else n.stoppedSlot := by
  cases i <;> simp [Notices.clear, Notices.cancel, Notices.putRoundFlag]

end One

/-! ## The writes of a request in a row -/

section Rows

/-- Enables written one after another, each of the listed statuses once. -/
theorem writeEnables_spelled (f : StatusId → Bool) (l : List StatusId) :
    ∀ n : Notices, l.Nodup → (∀ i ∈ l, ∀ k, i ≠ .cond k) →
      let m := writeEnables n (l.map fun i => (i, f i))
      (∀ i, m.isEnabled i = if i ∈ l then f i else n.isEnabled i) ∧ (∀ i, m.isSet i = n.isSet i) ∧ n.sameData m ∧
      m.list = (n.list.filter fun i => ¬ (i ∈ l ∧ n.isEnabled i = true ∧ f i = false)) ++
        (l.filter fun i => n.isEnabled i = false ∧ f i = true ∧ n.isSet i = true ∧ i ∉ n.list) := by
  induction l with
  | nil => exact fun n _ _ => ⟨fun i => by simp [writeEnables], fun i => rfl, ⟨rfl, rfl, rfl⟩, by simp [writeEnables]⟩
  | cons a l ih =>
    intro n distinct notCond m
    obtain ⟨notIn, distinct⟩ := List.nodup_cons.mp distinct
    have first := fun i => enable_isEnabled n a i (f a) (notCond a (List.mem_cons_self ..))
    obtain ⟨enables, sets, data, list⟩ := ih (n.enable a (f a)) distinct
      fun i mem => notCond i (List.mem_cons_of_mem _ mem)
    refine ⟨fun i => ?_, fun i => ?_, ?_, ?_⟩
    · rw [show m.isEnabled i = _ from enables i, first]
      by_cases same : i = a
      · subst same
        simp [notIn]
      · simp [same]
    · rw [show m.isSet i = _ from sets i, enable_isSet]
    · obtain ⟨conds, cause, slot⟩ := enable_sameData n a (f a)
      obtain ⟨conds', cause', slot'⟩ := data
      exact ⟨conds'.trans conds, cause'.trans cause, slot'.trans slot⟩
    · have away : ∀ i ∈ l, i ≠ a := fun i mem same => notIn (same ▸ mem)
      have sameEnable : ∀ i ∈ l, (n.enable a (f a)).isEnabled i = n.isEnabled i := fun i mem => by
        rw [first, if_neg (away i mem)]
      have sameListed : ∀ i ∈ l, (i ∈ (n.enable a (f a)).list ↔ i ∈ n.list) := fun i mem => by
        rw [enable_list]
        have := away i mem
        split <;> simp [this]
      have added : (l.filter fun i => (n.enable a (f a)).isEnabled i = false ∧ f i = true ∧
            (n.enable a (f a)).isSet i = true ∧ i ∉ (n.enable a (f a)).list) =
          l.filter fun i => n.isEnabled i = false ∧ f i = true ∧ n.isSet i = true ∧ i ∉ n.list :=
        List.filter_congr fun i mem => by
          simp only [sameEnable i mem, enable_isSet, sameListed i mem]
      have kept : ((n.enable a (f a)).list.filter fun i =>
            ¬ (i ∈ l ∧ (n.enable a (f a)).isEnabled i = true ∧ f i = false)) =
          (n.list.filter fun i => ¬ (i ∈ a :: l ∧ n.isEnabled i = true ∧ f i = false)) ++
            if n.isEnabled a = false ∧ f a = true ∧ n.isSet a = true ∧ a ∉ n.list then [a] else [] := by
        rw [enable_list, List.filter_append, List.filter_filter]
        congr 1
        · refine List.filter_congr fun i _ => ?_
          rw [first]
          by_cases same : i = a
          · subst same
            simp [notIn]
          · simp [same]
        · split <;> simp [notIn]
      rw [show m.list = _ from list, added, kept, List.append_assoc, List.filter_cons]
      congr 1
      by_cases joins : n.isEnabled a = false ∧ f a = true ∧ n.isSet a = true ∧ a ∉ n.list
      · rw [if_pos joins, if_pos (decide_eq_true joins)]
        rfl
      · rw [if_neg joins, if_neg (by simpa using joins)]
        rfl

theorem clears_spelled (l : List StatusId) :
    ∀ n : Notices,
      let m := l.foldl Notices.clear n
      (∀ i, m.isSet i = if i ∈ l then false else n.isSet i) ∧ (∀ i, m.isEnabled i = n.isEnabled i) ∧
      m.list = (n.list.filter fun i => i ∉ l) ∧
      (∀ k : Kind, Vec.get m.conds k.idx = if .cond k ∈ l then ⟨false, none, 0⟩ else Vec.get n.conds k.idx) ∧
      m.heldCause = (if .held ∈ l then none else n.heldCause) ∧
      m.stoppedSlot = (if .stopped ∈ l then none else n.stoppedSlot) := by
  induction l with
  | nil => exact fun n => ⟨by simp, fun _ => rfl, by simp, by simp, by simp, by simp⟩
  | cons a l ih =>
    intro n m
    obtain ⟨sets, enables, list, conds, cause, slot⟩ := ih (n.clear a)
    refine ⟨fun i => ?_, fun i => ?_, ?_, fun k => ?_, ?_, ?_⟩
    · rw [show m.isSet i = _ from sets i, clear_isSet]
      by_cases same : i = a <;> simp [same]
    · rw [show m.isEnabled i = _ from enables i, clear_isEnabled]
    · rw [show m.list = _ from list, clear_list, List.filter_filter]
      refine List.filter_congr fun i _ => ?_
      by_cases same : i = a <;> simp [same]
    · rw [show Vec.get m.conds k.idx = _ from conds k, clear_cond]
      by_cases same : StatusId.cond k = a <;> simp [same]
    · rw [show m.heldCause = _ from cause, clear_heldCause]
      by_cases same : StatusId.held = a <;> simp [same]
    · rw [show m.stoppedSlot = _ from slot, clear_stoppedSlot]
      by_cases same : StatusId.stopped = a <;> simp [same]

end Rows

/-! ## The requests -/

/-- What a NOTICE ENABLE with operands in range names. -/
theorem enablesNamed_spelled {scope b flags : Byte} {q : Fin 64} (known : scope.toNat ≤ 2)
    (round : scope = 0#8 → q.val = b.toNat) (range : flags.toNat < 8) :
    enablesNamed scope b flags = some ((named scope q).map fun i => (i, wanted flags i)) := by
  have threeFlags : flags3? flags = some (flags.getLsbD 0, flags.getLsbD 1, flags.getLsbD 2) := if_pos range
  unfold enablesNamed named
  rw [threeFlags]
  match h : scope.toNat with
  | 0 =>
    have zero : scope = 0#8 := BitVec.eq_of_toNat_eq h
    simp only [index?_of_eq (round zero)]
    rfl
  | 1 =>
    simp only [List.map_flatMap]
    rfl
  | 2 => rfl
  | _ + 3 => omega

theorem enablesNamed_none {scope b flags : Byte}
    (bad : 2 < scope.toNat ∨ (scope = 0#8 ∧ 63 < b.toNat) ∨ 8 ≤ flags.toNat) : enablesNamed scope b flags = none := by
  unfold enablesNamed flags3?
  by_cases range : flags.toNat < 8
  · rw [if_pos range]
    rcases bad with unknown | ⟨rfl, noRound⟩ | tooMany
    · match h : scope.toNat with
      | 0 | 1 | 2 => omega
      | _ + 3 => rfl
    · simp only [index?_of_le (Nat.succ_le_of_lt noRound)]
      rfl
    · omega
  · rw [if_neg range]

theorem named_notCond {scope : Byte} {q : Fin 64} {i : StatusId} (h : i ∈ named scope q) (k : Kind) : i ≠ .cond k := by
  rintro rfl
  unfold named at h
  split at h <;> simp at h

theorem named_nodup (scope : Byte) (q : Fin 64) : (named scope q).Nodup := by
  unfold named
  split
  · simp
  · rw [List.nodup_flatMap]
    refine ⟨fun u _ => by simp, (List.nodup_finRange 64).imp fun {u v} other => ?_⟩
    simp [List.disjoint_left, other]
  · simp

theorem clearsNamed_none {scope sel w : Byte} (bad : 4 < scope.toNat ∨ (scope.toNat ≤ 1 ∧ 63 < sel.toNat) ∨
    (scope = 2#8 ∧ 17 < sel.toNat) ∨ ((scope = 0#8 ∨ scope = 4#8) ∧ 2 < w.toNat)) : clearsNamed scope sel w = none := by
  have noStatus : 2 < w.toNat → roundStatus? w = none ∧ deviceStatus? w = none := by
    intro beyond
    unfold roundStatus? deviceStatus?
    match w.toNat, beyond with
    | _ + 3, _ => exact ⟨rfl, rfl⟩
  simp only [BitVec.toNat_eq, BitVec.toNat_ofNat] at bad
  unfold clearsNamed
  match h : scope.toNat with
  | 0 =>
    by_cases noRound : 63 < sel.toNat
    · simp only [index?_of_le (Nat.succ_le_of_lt noRound)]
    · have noStatus := (noStatus (by omega)).1
      simp only [noStatus]
      cases index? 64 sel <;> rfl
  | 1 =>
    have noRound : 63 < sel.toNat := by omega
    simp only [index?_of_le (Nat.succ_le_of_lt noRound)]
    rfl
  | 2 =>
    have noKind : 17 < sel.toNat := by omega
    simp only [kind?_eq_none noKind]
    rfl
  | 3 =>
    omega
  | 4 =>
    have noStatus := (noStatus (by omega)).2
    simp only [noStatus]
    rfl
  | _ + 5 => rfl

/-- Settles O49: NOTICE ENABLE out of range and in range; NOTICE CLEAR out of range and for each scope. -/
theorem noticeEnableAndClear : Obligations.NoticeEnableAndClear := by
  refine ⟨fun s tag scope b flags asked => ?_, fun s tag scope sel w asked => ?_⟩
  · rw [exec_noticeEnable, exec_asked asked]
    refine ⟨fun bad => ?_, fun q known round range => ?_⟩
    · simp only [noticeEnableRequest, enablesNamed_none bad]
      exact next_reply ..
    · obtain ⟨enables, sets, ⟨conds, cause, slot⟩, list⟩ := writeEnables_spelled (wanted flags) (named scope q) s.notices
        (named_nodup scope q) fun i mem k => named_notCond mem k
      refine ⟨_, ?_, enables, sets, conds, cause, slot, list⟩
      simp only [noticeEnableRequest, enablesNamed_spelled known round range]
      exact next_reply ..
  · intro clears
    have clearing : ∀ l, clearsNamed scope sel w = some l → clears l := by
      intro l names
      obtain ⟨sets, enables, list, conds, cause, slot⟩ := clears_spelled l s.notices
      refine ⟨_, ?_, sets, enables, list, conds, cause, slot⟩
      rw [exec_noticeClear, exec_asked asked]
      simp only [noticeClearRequest, names]
      refine (next_reply ..).trans ?_
      rw [List.countP_eq_length_filter]
      rfl
    refine ⟨fun bad => ?_, fun q round => ⟨?_, ?_⟩, fun k kind => ?_, ?_, ?_⟩
    · rw [exec_noticeClear, exec_asked asked]
      simp only [noticeClearRequest, clearsNamed_none bad]
      exact next_reply ..
    · rintro rfl
      refine ⟨?_, ?_, ?_⟩ <;>
      · rintro rfl
        refine clearing _ ?_
        simp only [clearsNamed, index?_of_eq round]
        rfl
    · rintro rfl
      refine clearing _ ?_
      simp only [clearsNamed, index?_of_eq round]
      rfl
    · rintro rfl
      refine clearing _ ?_
      simp only [clearsNamed, kind?_of_eq kind]
      rfl
    · rintro rfl
      exact clearing _ rfl
    · rintro rfl
      refine ⟨?_, ?_, ?_⟩ <;>
      · rintro rfl
        exact clearing _ rfl

end Sys2Proof.Machine
end

section
/-! PROOFS. RELEASE (O42): the carry-over keeps the round ready for its owed cut-off, and its figures add up. -/

namespace Sys2Proof.Machine

/-! ## What the carry-over leaves of the round (R129–R133) -/

/-- A round whose released side is FREE and empty, with its Held flag. -/
def Round.handedBack (held : Bool) (x : Round) : Prop := x.otherState = .free ∧ x.other = [] ∧ x.held = held

section HandedBack

variable {s : State} {q : Fin 64} {held : Bool}

/-- A round written with another FILL side. -/
theorem handedBack_setRound {x : Round} {u : Fin 64} (h : (s.round q).handedBack held)
    (kept : u = q → x.handedBack held) : ((s.setRound u x).round q).handedBack held := by
  by_cases same : u = q
  · subst same
    rw [round_setRound_same]
    exact kept rfl
  · rw [round_setRound_of_ne _ _ same]
    exact h

theorem handedBack_detach (i : Nat) (m : Mark) (h : (s.round q).handedBack held) :
    ((detach s i m).round q).handedBack held := by
  cases found : locate s.rounds i with
  | none => simpa only [detach, found] using h
  | some place =>
    obtain ⟨u, w⟩ := place
    cases w with
    | fill =>
      simp only [detach, found]
      exact handedBack_setRound h fun same => by subst same; exact h
    | other =>
      have elsewhere : u ≠ q := by
        rintro rfl
        obtain ⟨before, e, after, side, -⟩ := entryAt_of_locate found
        rw [show (s.round u).other = [] from h.2.1] at side
        simp at side
      simp only [detach, found]
      split
      · exact handedBack_setRound h fun same => absurd same elsewhere
      · exact handedBack_setRound h fun same => absurd same elsewhere

theorem handedBack_claimUnplaced (i : Nat) (h : (s.round q).handedBack held) :
    ((claimUnplaced s i).1.round q).handedBack held := by
  rcases claimUnplaced_cases s i with ⟨r, -, claimed⟩ | ⟨r, d, -, -, claimed⟩ | ⟨-, claimed⟩ <;> rw [claimed]
  · exact h
  · exact handedBack_detach (s := stop (s.setTable (s.table.put i .damaged)) i) i .withdrawn (by simpa [State.round] using h)
  · exact h

/-- The three ways of carrying an entry over: onto the side, in place of a last entry of lower class, or not at all. -/
theorem carryOne_cases (s : State) (q : Fin 64) (g : Figures) (e : Entry) :
    (carryOne q (s, g) e = (s.setRound q { s.round q with
        fill := insertCarried { e with carried := true } (s.round q).fill }, { g with carried := g.carried + 1 })) ∨
    (∃ last : Entry, carryOne q (s, g) e = ((claimUnplaced ((s.setRound q { s.round q with
        fill := insertCarried { e with carried := true } (s.round q).fill.dropLast,
        displaced := satInc16 (s.round q).displaced }).setFree (s.free + 1)) last.slot).1,
      { g with carried := g.carried + 1, displaced := g.displaced + 1 })) ∨
    carryOne q (s, g) e =
      (if (claimUnplaced (s.setFree (s.free + 1)) e.slot).2 then
          raiseT (claimUnplaced (s.setFree (s.free + 1)) e.slot).1 .placeFail (.bin e.binId)
        else (claimUnplaced (s.setFree (s.free + 1)) e.slot).1,
        { g with dropped := g.dropped + 1 }) := by
  by_cases room : (s.round q).fill.length < (s.round q).cap
  · exact .inl (carryOne_room room)
  · by_cases displaces : ∃ last, (s.round q).fill.getLast? = some last ∧ last.cls.lower e.cls = true
    · obtain ⟨last, side, lower⟩ := displaces
      exact .inr (.inl ⟨last, carryOne_displaces room side lower⟩)
    · refine .inr (.inr (carryOne_drops room fun last side => ?_))
      exact Bool.eq_false_iff.mpr fun lower => displaces ⟨last, side, lower⟩

theorem handedBack_carryOne (g : Figures) (e : Entry) (h : (s.round q).handedBack held) :
    ((carryOne q (s, g) e).1.round q).handedBack held := by
  rcases carryOne_cases s q g e with carried | ⟨last, carried⟩ | carried <;> rw [carried]
  · exact handedBack_setRound h fun _ => h
  · refine handedBack_claimUnplaced _ ?_
    rw [round_setFree]
    exact handedBack_setRound h fun _ => h
  · have claimed := handedBack_claimUnplaced (s := s.setFree (s.free + 1)) e.slot h
    dsimp only
    split
    · rwa [round_raiseT]
    · exact claimed

theorem handedBack_carryAll (l : List Entry) : ∀ (s : State) (g : Figures), (s.round q).handedBack held →
    ((l.foldl (carryOne q) (s, g)).1.round q).handedBack held := by
  induction l with
  | nil => exact fun _ _ h => h
  | cons e l ih => exact fun s g h => ih _ _ (handedBack_carryOne g e h)

end HandedBack

/-- The figures of a carry-over: every entry is carried or dropped, and displacing is a way of carrying (R134). -/
theorem carryAll_figures (q : Fin 64) (l : List Entry) : ∀ (s : State) (g : Figures), g.displaced ≤ g.carried →
    let r := (l.foldl (carryOne q) (s, g)).2
    r.freed = g.freed ∧ r.carried + r.dropped = g.carried + g.dropped + l.length ∧ r.displaced ≤ r.carried := by
  induction l with
  | nil => exact fun _ _ h => ⟨rfl, rfl, h⟩
  | cons e l ih =>
    intro s g within r
    have one : (carryOne q (s, g) e).2.freed = g.freed ∧
        (carryOne q (s, g) e).2.carried + (carryOne q (s, g) e).2.dropped = g.carried + g.dropped + 1 ∧
        (carryOne q (s, g) e).2.displaced ≤ (carryOne q (s, g) e).2.carried := by
      rcases carryOne_cases s q g e with carried | ⟨last, carried⟩ | carried <;> rw [carried] <;>
        exact ⟨rfl, by dsimp only; omega, by dsimp only; omega⟩
    obtain ⟨freed, sum, displaced⟩ := one
    obtain ⟨freed', sum', displaced'⟩ := ih (carryOne q (s, g) e).1 (carryOne q (s, g) e).2 displaced
    refine ⟨freed'.trans freed, ?_, displaced'⟩
    rw [List.length_cons]
    exact sum'.trans (by omega)

/-! ## The owed cut-off (R133) -/

/-- What a cut-off completes of a release. -/
def CutoffOutcome.completion : CutoffOutcome → Completion
  | .sealed n _ => .sealed n
  | .empty => .empty
  | .held => .none

section Complete

variable {s : State} {q : Fin 64}

/-- `s` with Held of a round cleared. -/
def State.clearHeld (s : State) (q : Fin 64) : State := s.setRound q { s.round q with held := false }

theorem clearHeld_of_not (h : (s.round q).held = false) : s.clearHeld q = s := by
  have same : { s.round q with held := false } = s.round q := by rw [← h]
  rw [State.clearHeld, same, setRound_self]

theorem completeCutoff_notHeld (h : (s.round q).held = false) : completeCutoff s q = (s.clearHeld q, .none) := by
  rw [clearHeld_of_not h]
  simp [completeCutoff, h]

theorem completeCutoff_held (h : (s.round q).handedBack true) : completeCutoff s q =
    ((cutoff (s.clearHeld q) q).1, (cutoff (s.clearHeld q) q).2.completion) := by
  obtain ⟨free, -, held⟩ := h
  have free : ((s.clearHeld q).round q).otherState = .free := by rw [State.clearHeld, round_setRound_same]; exact free
  simp only [completeCutoff, held, if_true]
  rw [cutoff, if_pos free]
  rfl

/-- A cut-off that finds the other side FREE leaves Held. -/
theorem cutoff_free_held (free : (s.round q).otherState = .free) : ((cutoff s q).1.round q).held = (s.round q).held := by
  by_cases sealing : (s.round q).fill ≠ [] ∨ (s.round q).sealEmpty = true
  · rw [cutoff_sealing free sealing]
    cases bound : (s.round q).bound with
    | none => rw [sealRound_unbound bound]; simp [Round.sealedAt]
    | some p =>
      by_cases entries : (s.round q).fill = []
      · rw [sealRound_spends bound entries]; simp [Round.sealedAt]
      · rw [sealRound_opens bound entries]; simp [Round.sealedAt]
  · simp only [not_or, not_not, Bool.not_eq_true] at sealing
    rw [cutoff_empty free sealing.1 sealing.2]
    rfl

end Complete

/-! ## RELEASE (R129, R148) -/

section Release

variable {s : State} {p : Fin 4} {q : Fin 64}

/-- The number of marked entries of the side that is handed back. -/
def releaseFreed (s : State) (q : Fin 64) : Nat := ((s.round q).other.filter fun e => e.mark ≠ .none).length

/-- Where the carry-over of a release starts, as the statements spell it. -/
def releaseStart (s : State) (p : Fin 4) (q : Fin 64) : State :=
  ((s.setRound q { s.round q with otherState := .free, other := [] }).setFree
    (s.free + releaseFreed s q)).setPort p ⟨.waiting q, 0, 0, false⟩

theorem unmarked_spelled (l : List Entry) : (l.filter fun e => !e.marked) = l.filter fun e => e.mark = .none :=
  List.filter_congr fun e _ => by simp [Entry.marked]

theorem handBack_spelled : handBack s p q =
    ((s.round q).other.filter fun e => e.mark = .none).foldl (carryOne q)
      (releaseStart s p q, ⟨releaseFreed s q, 0, 0, 0⟩) := by
  simp only [handBack, unmarked_spelled, countP_marked]
  rfl

theorem handBack_round : ((handBack s p q).1.round q).handedBack (s.round q).held := by
  rw [handBack_spelled]
  refine handedBack_carryAll _ _ _ ?_
  rw [releaseStart, round_setPort, round_setFree, round_setRound_same]
  exact ⟨rfl, rfl, rfl⟩

/-- After a release no cut-off is owed (R133). -/
theorem releaseSide_notHeld (s : State) (p : Fin 4) (q : Fin 64) : ((releaseSide s p q).1.round q).held = false := by
  have back := handBack_round (s := s) (p := p) (q := q)
  have cleared : (((handBack s p q).1.clearHeld q).round q).held = false := by rw [State.clearHeld, round_setRound_same]
  cases held : (s.round q).held with
  | false =>
    have completed := completeCutoff_notHeld (back.2.2.trans held)
    simp only [releaseSide, completed, cleared]
  | true =>
    rw [held] at back
    have completed := completeCutoff_held back
    have free : (((handBack s p q).1.clearHeld q).round q).otherState = .free := by
      rw [State.clearHeld, round_setRound_same]
      exact back.1
    simp only [releaseSide, completed, cutoff_free_held free, cleared]

theorem releaseRequest_reads {tag : Word16} {a : Byte} (running : s.intake.state ≠ .stopped) (port : p.val = a.toNat)
    (reads : (s.port p).state = .reading q ∨ (s.port p).state = .exhausted q) :
    releaseRequest ⟨0x44, tag, [a]⟩ s = answeredWith (releaseSide s p q).1 0x44 tag 0
      (releaseData (releaseSide s p q).2.1 (releaseSide s p q).2.2) := by
  have answered : releaseRequest ⟨0x44, tag, [a]⟩ s = reply (releaseSide s p q).1 ⟨0x44, tag, [a]⟩ .ok
      (releaseData (releaseSide s p q).2.1 (releaseSide s p q).2.2) := by
    rcases reads with reading | exhausted
    · simp only [releaseRequest, State.isStopped_of_ne running, index?_of_eq port, reading]
      rfl
    · simp only [releaseRequest, State.isStopped_of_ne running, index?_of_eq port, exhausted]
      rfl
  rw [answered, reply_spelled]
  rfl

/-- A claim for a displaced or dropped bin asks the table alone. -/
theorem claimUnplaced_of_table {t : State} {i : Nat} {y : BinRecord} (live : s.table.get i = .live y 0)
    (same : t.table = s.table) : claimUnplaced t i = (t.writeRecord i { y with placement := .unplaced }, true) :=
  claimUnplaced_good (same ▸ live)

/-- A group T condition does not ask the rounds. -/
theorem raiseT_setRound (s : State) (u : Fin 64) (x : Round) (k : Kind) (j : Subject) :
    raiseT (s.setRound u x) k j = (raiseT s k j).setRound u x := by
  unfold raiseT
  dsimp only
  rw [show (s.setRound u x).cond.action k = s.cond.action k from rfl]
  cases s.cond.action k with
  | hold =>
    simp only [if_true]
    rw [show dispose (s.setRound u x) k j .hold = (dispose s k j .hold).setRound u x from rfl, holdForT_eq, holdForT_eq,
      setRound_intake]
    split
    · rfl
    · split
      · rfl
      · rfl
  | _ => rfl

/-- A release before its owed cut-off, with the FILL side, the displaced count and the pool it leaves. -/
def releaseBare (s : State) (p : Fin 4) (q : Fin 64) (fill : List Entry) (displaced : Word16) (free : Nat) : State :=
  ((s.setRound q { s.round q with
    otherState := .free, other := [], fill := fill, held := false, displaced := displaced }).setFree free).setPort p
    ⟨.waiting q, 0, 0, false⟩

theorem releaseStart_round :
    (releaseStart s p q).round q = { s.round q with otherState := .free, other := [] } := by
  rw [releaseStart, round_setPort, round_setFree, round_setRound_same]

/-- The carry-over of a side whose entries all find room. -/
theorem handBack_room {unmarked : List Entry} (h : ((s.round q).other.filter fun e => e.mark = .none) = unmarked)
    (room : (s.round q).fill.length + unmarked.length ≤ (s.round q).cap) :
    (handBack s p q).1.clearHeld q = releaseBare s p q
      (unmarked.foldl (fun l e => insertCarried { e with carried := true } l) (s.round q).fill) (s.round q).displaced
      (s.free + releaseFreed s q) ∧ (handBack s p q).2 = ⟨releaseFreed s q, unmarked.length, 0, 0⟩ := by
  rw [handBack_spelled, h, carryAll_room q unmarked _ _ (by rw [releaseStart_round]; exact room), Nat.zero_add]
  refine ⟨?_, rfl⟩
  simp only [State.clearHeld, round_setRound_same, setRound_setRound, releaseStart_round]
  apply State.ext_fields <;> simp [releaseBare, releaseStart, releaseFreed, State.setRound, Vec.put_put]

section OneEntry

variable {e last : Entry} {front : List Entry} {y : BinRecord}
  (single : ((s.round q).other.filter fun e => e.mark = .none) = [e]) (full : (s.round q).cap ≤ (s.round q).fill.length)
  (side : (s.round q).fill = front ++ [last])

include single full side

/-- The carry-over of one entry in place of a last one of lower class. -/
theorem handBack_displaces (lower : e.cls.rank < last.cls.rank) (live : s.table.get last.slot = .live y 0) :
    (handBack s p q).1.clearHeld q = (releaseBare s p q (insertCarried { e with carried := true } front)
      (satInc16 (s.round q).displaced) (s.free + releaseFreed s q + 1)).setTable
        (s.table.put last.slot (.live { y with placement := .unplaced } 0)) ∧
    (handBack s p q).2 = ⟨releaseFreed s q, 1, 1, 0⟩ := by
  have getLast : ((releaseStart s p q).round q).fill.getLast? = some last := by
    rw [releaseStart_round]
    simp [side]
  rw [handBack_spelled, single, List.foldl_cons, List.foldl_nil,
    carryOne_displaces (by rw [releaseStart_round]; exact Nat.not_lt.mpr full) getLast (decide_eq_true lower),
    claimUnplaced_of_table live]
  swap
  · rfl
  refine ⟨?_, rfl⟩
  simp only [State.clearHeld, State.writeRecord, round_setTable, round_setFree, round_setRound_same, releaseStart_round,
    side, List.dropLast_concat]
  apply State.ext_fields <;> simp [releaseBare, releaseStart, releaseFreed, State.setRound, Vec.put_put, side]

/-- The carry-over of one entry that finds no place. -/
theorem handBack_drops (notLower : last.cls.rank ≤ e.cls.rank) (live : s.table.get e.slot = .live y 0) :
    (handBack s p q).1.clearHeld q = raiseT ((releaseBare s p q (s.round q).fill (s.round q).displaced
      (s.free + releaseFreed s q + 1)).setTable (s.table.put e.slot (.live { y with placement := .unplaced } 0)))
        .placeFail (.bin e.binId) ∧
    (handBack s p q).2 = ⟨releaseFreed s q, 0, 0, 1⟩ := by
  have notLower : ∀ l, ((releaseStart s p q).round q).fill.getLast? = some l → l.cls.lower e.cls = false := by
    rw [releaseStart_round]
    intro l isLast
    have same : last = l := by simpa [side] using isLast
    rw [← same]
    exact decide_eq_false (Nat.not_lt.mpr notLower)
  rw [handBack_spelled, single, List.foldl_cons, List.foldl_nil,
    carryOne_drops (by rw [releaseStart_round]; exact Nat.not_lt.mpr full) notLower, claimUnplaced_of_table live]
  swap
  · rfl
  rw [if_pos rfl]
  refine ⟨?_, rfl⟩
  rw [State.clearHeld, round_raiseT, ← raiseT_setRound]
  congr 1
  simp only [State.writeRecord, round_setTable, round_setFree, releaseStart_round]
  apply State.ext_fields <;> simp [releaseBare, releaseStart, releaseFreed, State.setRound, Vec.put_put]

end OneEntry

/-- The four figures of a release (R134). -/
def Figures.bytes (g : Figures) : List Byte := [byte g.freed, byte g.carried, byte g.displaced, byte g.dropped]

/-- A release by what its carry-over leaves: with no cut-off owed it is answered so, else the cut-off is performed. -/
theorem release_ends {tag : Word16} {a : Byte} (asked : Asked s 0x44 tag [a]) (running : s.intake.state ≠ .stopped)
    (port : p.val = a.toNat) (reads : (s.port p).state = .reading q ∨ (s.port p).state = .exhausted q) {t : State}
    {g : Figures} (ht : (handBack s p q).1.clearHeld q = t) (hg : (handBack s p q).2 = g) :
    ((s.round q).held = false → exec .release s = .next (answeredWith t 0x44 tag 0 (g.bytes ++ [0, 0]))) ∧
    ((s.round q).held = true →
      (∀ n o, (cutoff t q).2 = .sealed n o →
        exec .release s = .next (answeredWith (cutoff t q).1 0x44 tag 0 (g.bytes ++ [1, byte n]))) ∧
      ((cutoff t q).2 = .empty →
        exec .release s = .next (answeredWith (cutoff t q).1 0x44 tag 0 (g.bytes ++ [2, 0])))) := by
  subst ht hg
  have back := handBack_round (s := s) (p := p) (q := q)
  rw [exec_release, exec_asked asked, releaseRequest_reads running port reads]
  refine ⟨fun notHeld => ?_, fun held => ?_⟩
  · have completed := completeCutoff_notHeld (back.2.2.trans notHeld)
    simp only [releaseSide, completed]
    rfl
  · rw [held] at back
    have completed := completeCutoff_held back
    simp only [releaseSide, completed]
    refine ⟨fun n o sealing => ?_, fun nothing => ?_⟩
    · rw [sealing]
      rfl
    · rw [nothing]
      rfl

end Release

/-- Settles O42: the refusals; the carry-over with room for all, of one entry at the cap, and in general; the owed
cut-off; the figures' sum. -/
theorem releaseHandsBack : Obligations.ReleaseHandsBack := by
  intro s tag a asked
  refine ⟨fun stopped => ?_, fun running outOfRange => ?_, fun p running port => ⟨fun unbound => ?_, fun q waiting => ?_,
    fun q reads => ?_⟩⟩
  · rw [exec_release, exec_asked asked]
    simp only [releaseRequest, State.isStopped_of_eq stopped]
    exact next_reply ..
  · rw [exec_release, exec_asked asked]
    simp only [releaseRequest, State.isStopped_of_ne running, index?_of_le (Nat.succ_le_of_lt outOfRange)]
    exact next_reply ..
  · rw [exec_release, exec_asked asked]
    simp only [releaseRequest, State.isStopped_of_ne running, index?_of_eq port, unbound]
    exact next_reply ..
  · rw [exec_release, exec_asked asked]
    simp only [releaseRequest, State.isStopped_of_ne running, index?_of_eq port, waiting]
    exact next_reply ..
  · intro x freed unmarked bare ends
    have bare_eq : bare = releaseBare s p q := rfl
    have freed_eq : freed = releaseFreed s q := rfl
    clear_value bare freed
    subst bare_eq freed_eq
    refine ⟨fun room => ?_, fun e front last single full side => ⟨fun lower y live => ?_, fun notLower y live => ?_⟩,
      ?_, ?_⟩
    · obtain ⟨left, figures⟩ := handBack_room (p := p) rfl room
      exact release_ends asked running port reads (g := ⟨releaseFreed s q, unmarked.length, 0, 0⟩) left figures
    · obtain ⟨left, figures⟩ := handBack_displaces (p := p) single full side lower live
      exact release_ends asked running port reads (g := ⟨releaseFreed s q, 1, 1, 0⟩) left figures
    · obtain ⟨left, figures⟩ := handBack_drops (p := p) single full side notLower live
      exact release_ends asked running port reads (g := ⟨releaseFreed s q, 0, 0, 1⟩) left figures
    · intro start carried t
      have back : handBack s p q = carried := handBack_spelled.trans (by
        rw [show carryOne q = carriedOver q from funext₂ (carryOne_spelled q)]
        rfl)
      clear_value carried
      have left : (handBack s p q).1.clearHeld q = t.setRound q { t.round q with held := false } := by
        rw [back]
        rfl
      exact release_ends asked running port reads (g := carried.2) left (congrArg Prod.snd back)
    · obtain ⟨sameFreed, sum, within⟩ := carryAll_figures q unmarked (releaseStart s p q)
        ⟨releaseFreed s q, 0, 0, 0⟩ (Nat.le_refl 0)
      rw [show unmarked.foldl (carryOne q) _ = handBack s p q from handBack_spelled.symm] at sameFreed sum within
      refine ⟨(releaseSide s p q).1, (handBack s p q).2.carried, (handBack s p q).2.displaced,
        (handBack s p q).2.dropped, (releaseSide s p q).2.2.bytes, ?_, ?_, within, ?_⟩
      · rw [exec_release, exec_asked asked, releaseRequest_reads running port reads]
        rw [show releaseFreed s q = (handBack s p q).2.freed from sameFreed.symm]
        rfl
      · have split := List.length_eq_length_filter_add (l := x.other) fun e => decide (e.mark = .none)
        have marked : (x.other.filter fun e => !decide (e.mark = .none)).length = releaseFreed s q := by
          simp [releaseFreed, x]
        have unmarked_length : unmarked.length = (x.other.filter fun e => decide (e.mark = .none)).length := rfl
        dsimp only at sum
        omega
      · exact releaseSide_notHeld s p q

end Sys2Proof.Machine
end

section
/-! PROOFS. RESTART (O51): the work of its seven steps, part by part, and its steps split over several commands. -/

namespace Sys2Proof.Machine

/-! ## The work of steps 2 to 6 (R188) -/

/-- A part as steps 3 to 6 of a RESTART leave it. -/
def restartTail (v : State) : State := restartLink (restartIntake (restartConditions (restartTable v)))

/-- The sweep as a RESTART leaves it (R174). -/
def Sweep.restarted (w : Sweep) : Sweep :=
  { w with running := false, overlaps := 0, endReason := if w.running = true then some .aborted else w.endReason }

/-- Step 2 writes the sweep alone. -/
theorem restartSweep_spelled (u : State) : restartSweep u = u.setSweep u.sweep.restarted := by
  unfold restartSweep endSweep Sweep.restarted
  cases running : u.sweep.running
  · simp only [Bool.false_eq_true, if_false]
    rw [← running]
  · simp only [if_true]
    rfl

theorem Slot.restart_spelled (v : Slot) : v.restart = match v with
    | .empty => .empty
    | .tombstone => .tombstone
    | .damaged => .tombstone
    | .live r d => if d ≠ 0 then .tombstone else .live { r with
        placement := if r.placement = .placed then .unplaced else r.placement } 0 := by
  cases v with
  | live r d =>
    simp only [Slot.restart]
    split
    · rfl
    · split
      · rfl
      · rfl
  | _ => rfl

/-- The LIVE slots whose check code fails, as the statements count them (R41). -/
theorem lost_spelled (t : BinTable) :
    t.lost = (t.filter fun p => match p.2 with | .live _ d => d ≠ 0 | _ => false).length := by
  unfold BinTable.lost BinTable.count
  refine congrArg List.length (List.filter_congr fun p _ => ?_)
  cases p.2 <;> rfl

theorem lane_withHandler (s : State) (h : Handler) (n : Fin 4) : (s.withHandler h).lane n = s.lane n := rfl

theorem notices_withHandler (s : State) (h : Handler) : (s.withHandler h).notices = s.notices := rfl

theorem rx_withHandler (s : State) (h : Handler) : (s.withHandler h).link.rx = s.link.rx := rfl

section Tail

variable (v : State)

theorem restartTail_table (i : Nat) : (restartTail v).table.get i = (v.table.get i).restart :=
  BinTable.get_restart v.table i

theorem restartTail_round (q : Fin 64) : (restartTail v).round q = (v.round q).restart := Vec.get_map ..

theorem restartTail_port (p : Fin 4) : (restartTail v).port p = ⟨.unbound, 0, 0, false⟩ := Vector.getElem_replicate _

theorem restartTail_intake : (restartTail v).intake = { v.intake with
    state := .held .restart, queue := [], accepted := 0, taken := 0, inFlight := none, holdWaiting := none,
    window := [] } := rfl

theorem restartTail_stopPin (h : Handler) : ((restartTail v).withHandler h).stopPin = false := by
  have held : ((restartTail v).withHandler h).intake.state = .held .restart := rfl
  rw [State.stopPin, State.isStopped, held]
  simp

theorem restartTail_lane (n : Fin 4) :
    (restartTail v).lane n = { v.lane n with received := 0, dropped := 0, lost := 0 } := by
  have zeroed : (restartIntake (restartConditions (restartTable v))).lane n = (v.lane n).zero := Vec.get_map ..
  rcases restartLink_lanes (restartIntake (restartConditions (restartTable v))) with again | kept
  · have twice : (restartTail v).lane n = ((restartIntake (restartConditions (restartTable v))).lane n).zero := by
      rw [State.lane, restartTail, again]
      exact Vec.get_map ..
    rw [twice, zeroed]
    rfl
  · have once : (restartTail v).lane n = (restartIntake (restartConditions (restartTable v))).lane n := by
      rw [State.lane, restartTail, kept]
      rfl
    rw [once, zeroed]
    rfl

theorem restartTail_rx : (restartTail v).link.rx = .waiting ∨ (restartTail v).link.rx = v.link.rx :=
  restartLink_rx (restartIntake (restartConditions (restartTable v)))

/-- What a RESTART keeps (R188). -/
theorem restartTail_keeps : (restartTail v).profiles = v.profiles ∧ (restartTail v).time = v.time ∧
    (restartTail v).pending = v.pending ∧ (restartTail v).rateHigh = v.rateHigh ∧ (restartTail v).rstLow = v.rstLow ∧
    (restartTail v).drawTimeout = v.drawTimeout ∧ (restartTail v).txOut = v.txOut := by
  simp [restartTail]

theorem restartTail_sweep : (restartTail v).sweep = { v.sweep with overlaps := 0 } := rfl

theorem restartTail_counts (k : Kind) :
    Vec.get (restartTail v).cond.counts k.idx = 0 ∧ Vec.get (restartTail v).cond.deferred k.idx = ⟨0, none⟩ :=
  ⟨Vector.getElem_replicate _, Vector.getElem_replicate _⟩

theorem restartTail_isSet (i : StatusId) : (restartTail v).notices.isSet i = false := by
  have same : (restartTail v).notices = v.notices.restart := rfl
  rw [same]
  cases i with
  | round q w =>
    simp only [Notices.isSet, Notices.roundFlag, Notices.restart, Vec.get_map]
    cases w <;> rfl
  | cond k => exact congrArg CondStatus.set (Vector.getElem_replicate _)
  | _ => rfl

theorem restartTail_isEnabled (i : StatusId) : (restartTail v).notices.isEnabled i = v.notices.isEnabled i := by
  have same : (restartTail v).notices = v.notices.restart := rfl
  rw [same]
  cases i with
  | round q w =>
    simp only [Notices.isEnabled, Notices.roundFlag, Notices.restart, Vec.get_map]
    cases w <;> rfl
  | _ => rfl

end Tail

/-! ## A RESTART split over several commands -/

/-- No RESTART waits to be begun. -/
def State.restartBegun (s : State) : Prop := ∀ r, s.link.handler = .taken r → r.code ≠ 0x9F#8

theorem beginRestart_of_begun {s : State} (h : s.restartBegun) : beginRestart s = s := by
  unfold beginRestart
  split
  · rename_i r taken
    rw [if_neg (h r taken)]
  · rfl

theorem beginRestart_begun (s : State) : (beginRestart s).restartBegun := by
  unfold beginRestart
  split
  · rename_i r taken
    split
    · intro r' h
      cases h
    · rename_i other
      intro r' taken'
      rw [taken] at taken'
      cases taken'
      exact other
  · rename_i notTaken
    exact fun r taken => absurd taken (notTaken r)

theorem setRestart_begun (s : State) (tag : Word16) (done lost : Nat) : (setRestart s tag done lost).restartBegun :=
  fun _ taken => nomatch taken

theorem answer_begun (s : State) (code : Byte) (tag : Word16) (q : ResultCode) (d : List Byte) :
    (answer s code tag q d).restartBegun := fun _ taken => nomatch taken

theorem restartStep_begun {s : State} (h : s.restartBegun) : (restartStep s).restartBegun := by
  unfold restartStep
  split
  · exact setRestart_begun _ _ _ _
  · exact setRestart_begun _ _ _ _
  · exact setRestart_begun _ _ _ _
  · exact setRestart_begun _ _ _ _
  · exact setRestart_begun _ _ _ _
  · exact setRestart_begun _ _ _ _
  · exact answer_begun _ _ _ _ _
  · exact h

theorem restartSteps_begun (n : Nat) : ∀ {s : State}, s.restartBegun → (restartSteps n s).restartBegun := by
  induction n with
  | zero => exact id
  | succ n ih => exact fun h => ih (restartStep_begun h)

theorem restartSteps_add (m n : Nat) (s : State) : restartSteps (n + m) s = restartSteps m (restartSteps n s) := by
  induction n generalizing s with
  | zero => rw [Nat.zero_add]; rfl
  | succ n ih => rw [Nat.succ_add]; exact ih _

theorem exec_restart_split {s u : State} {n m : Nat} (h : exec (.restart n) s = .next u) :
    exec (.restart m) u = exec (.restart (n + m)) s := by
  cases low : s.rstLow with
  | true =>
    have same : u = s := by
      rw [exec_restart, event_low _ low] at h
      cases h
      rfl
    rw [same, exec_restart, exec_restart, event_low _ low, event_low _ low]
  | false =>
    have worked : u = restartSteps n (beginRestart s) := by
      rw [exec_restart, event_high _ low] at h
      cases h
      rfl
    have high : u.rstLow = false := by
      rw [worked]
      simpa using low
    have begun : beginRestart u = u := beginRestart_of_begun (worked ▸ restartSteps_begun n (beginRestart_begun s))
    rw [exec_restart, exec_restart, event_high _ high, event_high _ low, begun, restartSteps_add, worked]

/-- Settles O51: a whole RESTART by its work and its answer, and the splitting of its steps. -/
theorem restartWork : Obligations.RestartWork := by
  refine ⟨fun s tag asked => ?_, fun s u n m => exec_restart_split⟩
  intro u
  have whole := exec_restart_whole asked.1 asked.2
  rw [show restartSweep (applyClaim [] s) = u.setSweep u.sweep.restarted from restartSweep_spelled u] at whole
  have high : u.rstLow = false := by simpa [u] using asked.1
  clear_value u
  have lost : (u.setSweep u.sweep.restarted).table.lost = _ := lost_spelled u.table
  refine ⟨(restartTail (u.setSweep u.sweep.restarted)).withHandler (.restarting tag 6 u.table.lost), ?_, ?_⟩
  · refine (whole.trans (congrArg _ (answer_spelled ..))).trans ?_
    rw [lost]
    rfl
  · have sweep : u.sweep.restarted = { u.sweep with
      running := false, overlaps := 0,
      endReason := if u.sweep.running = true then some .aborted else u.sweep.endReason } := rfl
    rw [← sweep]
    have noOverlaps : { u.sweep.restarted with overlaps := 0 } = u.sweep.restarted := rfl
    generalize u.sweep.restarted = w at noOverlaps
    obtain ⟨profiles, time, pending, rateHigh, rstLow, drawTimeout, txOut⟩ := restartTail_keeps (u.setSweep w)
    refine ⟨fun i => ?_, fun q => restartTail_round (u.setSweep w) q, ?_, fun p => restartTail_port (u.setSweep w) p,
      ?_, restartTail_stopPin (u.setSweep w) _, fun n => ?_, fun k => restartTail_counts (u.setSweep w) k, ?_, ?_, ?_, ?_,
      ?_, ?_, ?_, ?_, ?_, fun i => ?_, fun i => ?_, ?_, ?_, fun k => Vector.getElem_replicate _, ?_, ?_,
      ?_, ?_, ?_, ?_, ?_⟩
    · exact (restartTail_table (u.setSweep w) i).trans (Slot.restart_spelled _)
    · rfl
    · rfl
    · rw [lane_withHandler]
      exact restartTail_lane (u.setSweep w) n
    · rfl
    · rfl
    · rfl
    · rfl
    · exact (restartTail_sweep (u.setSweep w)).trans noOverlaps
    · rfl
    · rw [rx_withHandler]
      exact restartTail_rx (u.setSweep w)
    · rfl
    · rfl
    · rw [notices_withHandler]
      exact restartTail_isSet (u.setSweep w) i
    · rw [notices_withHandler]
      exact restartTail_isEnabled (u.setSweep w) i
    · rfl
    · rfl
    · exact profiles
    · exact time
    · exact pending
    · exact rateHigh
    · exact rstLow.trans high
    · exact drawTimeout
    · exact txOut

end Sys2Proof.Machine
end

section
/-! PROOFS. Every step keeps placements and unmarked entries in agreement (O57). The agreement is a statement slot by
slot: what the slot holds, and the unmarked entries that name it. -/

namespace Sys2Proof.Machine

/-! ## Two laws of the sheets at once -/

/-- Two laws of the sheets are one. -/
theorem SheetLaw.and {W W' : BinTable → Prop} {P P' : State → Prop} (L : SheetLaw W (fun _ => True) P)
    (L' : SheetLaw W' (fun _ => True) P') :
    SheetLaw (fun t => W t ∧ W' t) (fun _ => True) fun s => P s ∧ P' s where
  records := anyRecord
  congr same h := ⟨L.congr same h.1, L'.congr same h.2⟩
  onReset := ⟨L.onReset, L'.onReset⟩
  ofTable h := ⟨L.ofTable h.1, L'.ofTable h.2⟩
  ofRecord _ _ := trivial
  onCutoff q h := ⟨L.onCutoff q h.1, L'.onCutoff q h.2⟩
  onReturnSide reads h := ⟨L.onReturnSide reads h.1, L'.onReturnSide reads h.2⟩
  onLooseEnds waiting h := ⟨L.onLooseEnds waiting h.1, L'.onLooseEnds waiting h.2⟩
  onBindPort unbound free h := ⟨L.onBindPort unbound free h.1, L'.onBindPort unbound free h.2⟩
  onRewindPort reads h := ⟨L.onRewindPort reads h.1, L'.onRewindPort reads h.2⟩
  onConfigure range cap fill other h := ⟨L.onConfigure range cap fill other h.1, L'.onConfigure range cap fill other h.2⟩
  onDraw n reading h := ⟨L.onDraw n reading h.1, L'.onDraw n reading h.2⟩
  onUsed exhausted h := ⟨L.onUsed exhausted h.1, L'.onUsed exhausted h.2⟩
  onRelease reads h := ⟨L.onRelease reads h.1, L'.onRelease reads h.2⟩
  onAge n h := ⟨L.onAge n h.1, L'.onAge n h.2⟩
  onFail l h := ⟨L.onFail l h.1, L'.onFail l h.2⟩
  onError holds h := ⟨L.onError holds h.1, L'.onError holds h.2⟩
  onDrop holds h := ⟨L.onDrop holds h.1, L'.onDrop holds h.2⟩
  onReclaim tombstone next h := ⟨L.onReclaim tombstone next h.1, L'.onReclaim tombstone next h.2⟩
  onRestart h := ⟨L.onRestart h.1, L'.onRestart h.2⟩
  onInsert absent usable none _ h := ⟨L.onInsert absent usable none trivial h.1, L'.onInsert absent usable none trivial h.2⟩
  onRewrite live same _ h := ⟨L.onRewrite live same trivial h.1, L'.onRewrite live same trivial h.2⟩
  onWithdraw m id none _ hW h := ⟨L.onWithdraw m id none trivial hW.1 h.1, L'.onWithdraw m id none trivial hW.2 h.2⟩
  onPlace c _ hW h := ⟨L.onPlace c trivial hW.1 h.1, L'.onPlace c trivial hW.2 h.2⟩

/-! ## A slot and the entries that name it -/

/-- The record a slot holds, whatever its check code. -/
def BinTable.record? (t : BinTable) (i : Nat) : Option BinRecord :=
  match t.get i with
  | .live r _ => some r
  | _ => none

/-- An unmarked entry of the list names slot `i` and carries bin ID `id`. -/
def namedIn (l : List Entry) (i : Nat) (id : Word32) : Prop := ∃ e ∈ l, e.unmarkedAt i = true ∧ e.binId = id

/-- An unmarked entry on the sides of round `q` names slot `i` and carries bin ID `id`. -/
def State.names (s : State) (i : Nat) (q : Fin 64) (id : Word32) : Prop := namedIn (s.round q).entries i id

/-- What a slot holds agrees with the entries that name it (R102, R106). -/
def slotAgrees (v : Option BinRecord) (n : Fin 64 → Word32 → Prop) : Prop :=
  (∀ r, v = some r → r.placement = .placed → ∃ q id, n q id) ∧
  ∀ q id, n q id → ∃ r, v = some r ∧ r.placement = .placed ∧ r.binId = id ∧ r.round = some q

theorem record?_eq_some {t : BinTable} {i : Nat} {r : BinRecord} :
    t.record? i = some r ↔ ∃ d, t.get i = .live r d := by
  unfold BinTable.record?
  split
  · rename_i x d live
    simp [live]
  · rename_i notLive
    simp only [reduceCtorEq, false_iff, not_exists]
    exact fun d live => notLive r d live

theorem placementLaw_iff (s : State) : PlacementLaw s ↔ ∀ i, slotAgrees (s.table.record? i) (s.names i) := by
  constructor
  · rintro ⟨placed, named⟩ i
    constructor
    · intro r holds isPlaced
      obtain ⟨d, live⟩ := record?_eq_some.mp holds
      obtain ⟨⟨q, e⟩, mem, unmarked⟩ := placed i r d live isPlaced
      exact ⟨q, e.binId, e, mem_entries.mp mem, unmarked, rfl⟩
    · rintro q id ⟨e, mem, unmarked, rfl⟩
      obtain ⟨mark, rfl⟩ := (unmarkedAt_iff i e).mp unmarked
      obtain ⟨r, d, live, isPlaced, binId, round⟩ := named (q, e) (mem_entries.mpr mem) mark
      exact ⟨r, record?_eq_some.mpr ⟨d, live⟩, isPlaced, binId, round⟩
  · intro h
    constructor
    · intro i r d live isPlaced
      obtain ⟨q, id, e, mem, unmarked, -⟩ := (h i).1 r (record?_eq_some.mpr ⟨d, live⟩) isPlaced
      exact ⟨(q, e), mem_entries.mpr mem, unmarked⟩
    · rintro ⟨q, e⟩ mem mark
      obtain ⟨r, holds, isPlaced, binId, round⟩ := (h e.slot).2 q e.binId
        ⟨e, mem_entries.mp mem, (unmarkedAt_iff _ _).mpr ⟨mark, rfl⟩, rfl⟩
      obtain ⟨d, live⟩ := record?_eq_some.mp holds
      exact ⟨r, d, live, isPlaced, binId, round⟩

theorem slotAgrees_congr {v : Option BinRecord} {n n' : Fin 64 → Word32 → Prop} (same : ∀ q id, n' q id ↔ n q id) :
    slotAgrees v n' ↔ slotAgrees v n := by
  have : n' = n := funext fun q => funext fun id => propext (same q id)
  rw [this]

/-- A slot without an entry holds no PLACED record. -/
theorem slotAgrees_unnamed {v : Option BinRecord} {n : Fin 64 → Word32 → Prop} (unnamed : ∀ q id, ¬ n q id) :
    slotAgrees v n ↔ ∀ r, v = some r → r.placement ≠ .placed := by
  constructor
  · intro h r holds isPlaced
    obtain ⟨q, id, named⟩ := h.1 r holds isPlaced
    exact unnamed q id named
  · exact fun h => ⟨fun r holds isPlaced => absurd isPlaced (h r holds), fun q id named => absurd named (unnamed q id)⟩

/-- A record stands for another one that the Sheet Builder cannot tell from it. -/
theorem slotAgrees_rewrite {r r' : BinRecord} {n : Fin 64 → Word32 → Prop} (same : sameForSheets r r')
    (h : slotAgrees (some r) n) : slotAgrees (some r') n := by
  obtain ⟨binId, round, placement⟩ := same
  refine ⟨fun x holds isPlaced => ?_, fun q id named => ?_⟩
  · obtain rfl := Option.some.inj holds
    exact h.1 r rfl (placement ▸ isPlaced)
  · obtain ⟨x, holds, isPlaced, isId, isRound⟩ := h.2 q id named
    obtain rfl := Option.some.inj holds
    exact ⟨r', rfl, placement.trans isPlaced, binId.trans isId, round.trans isRound⟩

section Records

variable (t : BinTable) (i j : Nat)

theorem record?_put_live (r : BinRecord) (d : Word16) : (t.put i (.live r d)).record? i = some r :=
  record?_eq_some.mpr ⟨d, BinTable.get_put_live t i r d⟩

theorem record?_put_of_ne (v : Slot) {j : Nat} (other : j ≠ i) : (t.put i v).record? j = t.record? j := by
  simp [BinTable.record?, BinTable.get_put_of_ne t v other]

theorem record?_put_dead {v : Slot} (h : t.wf) (dead : v.isLive = false) : (t.put i v).record? i = none := by
  rw [BinTable.record?, BinTable.get_put_same t i v h]
  cases v <;> simp_all [Slot.isLive]

end Records

/-! ## What a written round does to the names -/

theorem namedIn_append {l l' : List Entry} {i : Nat} {id : Word32} :
    namedIn (l ++ l') i id ↔ namedIn l i id ∨ namedIn l' i id := by
  simp only [namedIn, List.mem_append, or_and_right, exists_or]

theorem namedIn_cons {l : List Entry} {e : Entry} {i : Nat} {id : Word32} :
    namedIn (e :: l) i id ↔ (e.unmarkedAt i = true ∧ e.binId = id) ∨ namedIn l i id := by
  simp [namedIn]

theorem namedIn_nil {i : Nat} {id : Word32} : ¬ namedIn [] i id := by simp [namedIn]

theorem namedIn_perm {l l' : List Entry} {i : Nat} {id : Word32} (h : l.Perm l') : namedIn l i id ↔ namedIn l' i id := by
  simp only [namedIn, h.mem_iff]

theorem namedIn_unmarked {l : List Entry} {i : Nat} {id : Word32} :
    namedIn (l.filter fun e => !e.marked) i id ↔ namedIn l i id := by
  simp only [namedIn, List.mem_filter]
  constructor
  · rintro ⟨e, ⟨mem, -⟩, named⟩; exact ⟨e, mem, named⟩
  · rintro ⟨e, mem, unmarked, isId⟩
    refine ⟨e, ⟨mem, ?_⟩, unmarked, isId⟩
    simp [Entry.marked, ((unmarkedAt_iff i e).mp unmarked).1]

theorem namedIn_insertPlaced {l : List Entry} {e : Entry} {i : Nat} {id : Word32} :
    namedIn (insertPlaced e l) i id ↔ (e.unmarkedAt i = true ∧ e.binId = id) ∨ namedIn l i id := by
  rw [namedIn_perm (insertPlaced_perm e l), namedIn_cons]

theorem namedIn_insertCarried {l : List Entry} {e : Entry} {i : Nat} {id : Word32} :
    namedIn (insertCarried { e with carried := true } l) i id ↔
      (e.unmarkedAt i = true ∧ e.binId = id) ∨ namedIn l i id := by
  rw [namedIn_perm (insertCarried_perm _ l), namedIn_cons]
  rfl

/-- The sides of every round name the same slots. -/
def sameNames (s t : State) : Prop := ∀ i q id, t.names i q id ↔ s.names i q id

theorem sameNames_of_rounds {s t : State} (h : t.rounds = s.rounds) : sameNames s t := by
  intro i q id
  simp only [State.names, State.round, h]

/-- One round is written, and its sides name the same slots as before. -/
theorem sameNames_setRound {s t : State} {q : Fin 64} {x : Round} (rounds : t.rounds = Vec.put s.rounds q x)
    (same : ∀ i id, namedIn x.entries i id ↔ namedIn (s.round q).entries i id) : sameNames s t := by
  intro i u id
  unfold State.names
  rw [round_of_rounds rounds]
  split
  · rename_i at_q; subst at_q; exact same i id
  · exact Iff.rfl

theorem cutoff_sameNames {s : State} (q : Fin 64) (rounds : RoundLaw s) : sameNames s (cutoff s q).1 := by
  unfold cutoff
  split
  · rename_i free
    have emptied : ∀ i id, namedIn ((s.round q).fill) i id ↔ namedIn (s.round q).entries i id := by
      obtain ⟨-, -, -, -, empty, -⟩ := rounds q
      intro i id
      rw [Round.entries, (empty free).1, List.append_nil]
    unfold cutoffFree
    split
    · exact sameNames_of_rounds rfl
    · cases bound : (s.round q).bound with
      | none => exact sameNames_setRound (sealRound_unbound_sides bound).1 emptied
      | some p => exact sameNames_setRound (sealRound_bound_sides bound).1 emptied
  · obtain ⟨m, same⟩ := cutoffHeld_sides (s := s) q
    exact sameNames_setRound same.1 fun _ _ => Iff.rfl

theorem returnSide_sameNames (s : State) (p : Fin 4) (q : Fin 64) : sameNames s (returnSide s p q).1 := by
  refine sameNames_setRound (returnSide_sides s p q).1 fun i id => ?_
  simp only [Round.entries, namedIn_append, namedIn_unmarked]

theorem bindPort_sameNames (s : State) (p : Fin 4) (q : Fin 64) : sameNames s (bindPort s p q) := by
  by_cases isSealed : (s.round q).otherState = .sealed
  · exact sameNames_setRound (bindPort_opens_sides isSealed).1 fun _ _ => Iff.rfl
  · exact sameNames_setRound (bindPort_waits_sides isSealed).1 fun _ _ => Iff.rfl

theorem rewindPort_sameNames (s : State) (p : Fin 4) (q : Fin 64) : sameNames s (rewindPort s p q) := by
  unfold rewindPort
  split
  · exact sameNames_of_rounds rfl
  · exact sameNames_setRound (x := { s.round q with otherState := .opened }) rfl fun _ _ => Iff.rfl

theorem moveCursor_sameNames (s : State) (p : Fin 4) (q : Fin 64) (c : Nat) : sameNames s (moveCursor s p q c) := by
  unfold moveCursor
  split
  · exact sameNames_setRound (x := { s.round q with otherState := .spent }) (by simp) fun _ _ => Iff.rfl
  · exact sameNames_of_rounds rfl

/-! ## Slots that no entry names -/

theorem unnamed_of_total {s : State} {i : Nat} (h : s.total (Entry.unmarkedAt i) = 0) (q : Fin 64) (id : Word32) :
    ¬ s.names i q id := by
  rintro ⟨e, mem, unmarked, -⟩
  rw [total_eq_sum, Finset.sum_eq_zero_iff] at h
  exact List.countP_eq_zero.mp (h q (Finset.mem_univ q)) e mem unmarked

theorem unnamed_of_locate {s : State} {i : Nat} (h : locate s.rounds i = none) (q : Fin 64) (id : Word32) :
    ¬ s.names i q id := unnamed_of_total (total_eq_zero h) q id

theorem locate_of_unnamed {s : State} {i : Nat} (h : ∀ q id, ¬ s.names i q id) : locate s.rounds i = none := by
  rw [locate_none]
  intro q e mem
  rw [Bool.eq_false_iff]
  exact fun unmarked => h q e.binId ⟨e, mem, unmarked, rfl⟩

/-- A located slot is named. -/
theorem named_of_locate {s : State} {i : Nat} {q : Fin 64} {w : Where} (h : locate s.rounds i = some (q, w)) :
    ∃ id, s.names i q id := by
  have found := locate_some h
  have mem : ∃ e ∈ (s.round q).entries, e.unmarkedAt i = true := by
    cases w with
    | fill =>
      obtain ⟨e, mem, unmarked⟩ := List.any_eq_true.mp (whereIs_fill found)
      exact ⟨e, List.mem_append_left _ mem, unmarked⟩
    | other =>
      obtain ⟨e, mem, unmarked⟩ := List.any_eq_true.mp (whereIs_other found)
      exact ⟨e, List.mem_append_right _ mem, unmarked⟩
  obtain ⟨e, mem, unmarked⟩ := mem
  exact ⟨e.binId, e, mem, unmarked, rfl⟩

theorem unmarkedAt_other {e : Entry} {i j : Nat} (unmarked : e.unmarkedAt i = true) (other : j ≠ i) :
    e.unmarkedAt j = false := by
  rw [unmarkedAt_false_iff]
  rintro ⟨-, slot⟩
  exact other (slot.symm.trans ((unmarkedAt_iff i e).mp unmarked).2)

/-- One round is written and loses an entry of slot `i`, the only one there is. -/
theorem unnamed_setRound_remove {s t : State} {q : Fin 64} {x : Round} {i : Nat} (unique : UnmarkedLaw s)
    (rounds : t.rounds = Vec.put s.rounds q x)
    (count : x.entries.countP (Entry.unmarkedAt i) + 1 ≤ (s.round q).entries.countP (Entry.unmarkedAt i))
    (u : Fin 64) (id : Word32) : ¬ t.names i u id := by
  refine unnamed_of_total ?_ u id
  have written := total_setRound (Entry.unmarkedAt i) s q x
  have once : s.total (Entry.unmarkedAt i) ≤ 1 := unique i
  rw [total_congr (s := s.setRound q x) _ rounds]
  omega

/-- One round is written and loses nothing but an entry of slot `i`, the only one there is. -/
theorem names_setRound_remove {s t : State} {q : Fin 64} {x : Round} {i : Nat} (unique : UnmarkedLaw s)
    (rounds : t.rounds = Vec.put s.rounds q x)
    (count : x.entries.countP (Entry.unmarkedAt i) + 1 ≤ (s.round q).entries.countP (Entry.unmarkedAt i))
    (others : ∀ j id, j ≠ i → (namedIn x.entries j id ↔ namedIn (s.round q).entries j id)) :
    (∀ u id, ¬ t.names i u id) ∧ ∀ j u id, j ≠ i → (t.names j u id ↔ s.names j u id) := by
  refine ⟨unnamed_setRound_remove unique rounds count, fun j u id other => ?_⟩
  unfold State.names
  rw [round_of_rounds rounds]
  split
  · rename_i at_q; subst at_q; exact others j id other
  · exact Iff.rfl

/-- Serve and Withdraw leave no entry of their slot, and every other slot's entry. -/
theorem detach_names {s : State} {m : Mark} (i : Nat) (hm : m ≠ .none) (unique : UnmarkedLaw s) :
    (∀ u id, ¬ (detach s i m).names i u id) ∧
      ∀ j u id, j ≠ i → ((detach s i m).names j u id ↔ s.names j u id) := by
  rcases detach_splits s i m with ⟨absent, h⟩ | ⟨q, before, e, after, unmarked, side⟩
  · rw [h]
    exact ⟨unnamed_of_locate absent, fun _ _ _ _ => Iff.rfl⟩
  · have away : ∀ {j}, j ≠ i → e.unmarkedAt j = false := unmarkedAt_other unmarked
    rcases side with ⟨side, h⟩ | ⟨side, -, h⟩ | ⟨side, -, h⟩ <;> rw [h]
    · refine names_setRound_remove (x := { s.round q with fill := before ++ after }) unique rfl ?_ fun j id other => ?_
      · simp [Round.entries, side, unmarked]
      · simp [Round.entries, side, namedIn_append, namedIn_cons, away other]
    · refine names_setRound_remove (x := { s.round q with other := before ++ after }) unique rfl ?_ fun j id other => ?_
      · simp [Round.entries, side, unmarked]
      · simp [Round.entries, side, namedIn_append, namedIn_cons, away other]
    · have marked : ∀ j, { e with mark := m }.unmarkedAt j = false := by simp [Entry.unmarkedAt, hm]
      refine names_setRound_remove (x := { s.round q with other := before ++ { e with mark := m } :: after }) unique rfl ?_
        fun j id other => ?_
      · simp [Round.entries, side, unmarked, marked]
      · simp [Round.entries, side, namedIn_append, namedIn_cons, away other, marked]

/-! ## The claim on a displaced or dropped bin's slot -/

/-- A claim on a slot that no entry names leaves the sides, and a record there that is not PLACED (R59, R132). -/
theorem claimUnplaced_unnamed {s : State} {j : Nat} (wf : s.table.wf) (absent : locate s.rounds j = none) :
    (claimUnplaced s j).1.rounds = s.rounds ∧
    (∀ i, i ≠ j → (claimUnplaced s j).1.table.record? i = s.table.record? i) ∧
    ∀ r, (claimUnplaced s j).1.table.record? j = some r → r.placement ≠ .placed := by
  rcases claimUnplaced_cases s j with ⟨r, live, h⟩ | ⟨r, d, live, -, h⟩ | ⟨notLive, h⟩ <;> rw [h]
  · refine ⟨rfl, fun i other => record?_put_of_ne _ _ _ other, fun x holds => ?_⟩
    rw [writeRecord_frame, setTable_table, record?_put_live] at holds
    obtain rfl := Option.some.inj holds
    simp
  · refine ⟨?_, fun i other => by rw [storeError_table]; exact record?_put_of_ne _ _ _ other, fun x holds => ?_⟩
    · simp only [storeError, detach]
      rw [show locate (stop (s.setTable (s.table.put j .damaged)) j).rounds j = none by simpa using absent]
      simp
    · rw [storeError_table, record?_put_dead _ _ wf rfl] at holds
      cases holds
  · refine ⟨rfl, fun _ _ => rfl, fun x holds => ?_⟩
    obtain ⟨d, live⟩ := record?_eq_some.mp holds
    exact absurd live (notLive x d)

/-- The slots agree with the names `N`, except that `N` leaves slot `j` unnamed: a claim on slot `j` makes them agree
there too. -/
theorem claimUnplaced_agrees {s : State} {j : Nat} {N : Nat → Fin 64 → Word32 → Prop} (wf : s.table.wf)
    (absent : locate s.rounds j = none) (unnamed : ∀ q id, ¬ N j q id)
    (others : ∀ i, i ≠ j → slotAgrees (s.table.record? i) (N i)) (i : Nat) :
    slotAgrees ((claimUnplaced s j).1.table.record? i) (N i) := by
  obtain ⟨-, same, notPlaced⟩ := claimUnplaced_unnamed wf absent
  by_cases at_j : i = j
  · subst at_j
    exact (slotAgrees_unnamed unnamed).mpr notPlaced
  · rw [same i at_j]
    exact others i at_j

/-! ## Place (R108–R112) -/

/-- The slots agree with the entries that name them. -/
def sheetsAgree (s : State) : Prop := ∀ i, slotAgrees (s.table.record? i) (s.names i)

theorem sheetsAgree_congr {s t : State} (names : sameNames s t)
    (records : ∀ i, t.table.record? i = s.table.record? i) (h : sheetsAgree s) : sheetsAgree t := by
  intro i
  rw [records]
  exact (slotAgrees_congr (names i)).mpr (h i)

/-- Slot `i` is written; the other slots and their entries stand. -/
theorem sheetsAgree_write {s t : State} {i : Nat} (h : sheetsAgree s)
    (records : ∀ j, j ≠ i → t.table.record? j = s.table.record? j)
    (names : ∀ j q id, j ≠ i → (t.names j q id ↔ s.names j q id)) (written : slotAgrees (t.table.record? i) (t.names i)) :
    sheetsAgree t := by
  intro j
  by_cases at_i : j = i
  · exact at_i ▸ written
  · rw [records j at_i]
    exact (slotAgrees_congr (fun q id => names j q id at_i)).mpr (h j)

section Place

variable {s : State} {i : Nat} {r : BinRecord}

theorem record?_writeRecord (s : State) (i : Nat) (r : BinRecord) : (s.writeRecord i r).table.record? i = some r :=
  record?_put_live s.table i r 0

theorem record?_writeRecord_of_ne (s : State) {i j : Nat} (r : BinRecord) (other : j ≠ i) :
    (s.writeRecord i r).table.record? j = s.table.record? j :=
  record?_put_of_ne s.table i _ other

/-- Where an unmarked entry names the claim's slot, its record is PLACED. -/
theorem placed_of_locate {q : Fin 64} {w : Where} (h : sheetsAgree (s.writeRecord i r))
    (found : locate s.rounds i = some (q, w)) : r.placement = .placed ∧ r.round = some q := by
  obtain ⟨id, named⟩ := named_of_locate found
  obtain ⟨x, holds, isPlaced, -, round⟩ := (h i).2 q id named
  rw [record?_writeRecord] at holds
  obtain rfl := Option.some.inj holds
  exact ⟨isPlaced, round⟩

theorem notPlaced_of_locate (h : sheetsAgree (s.writeRecord i r)) (absent : locate s.rounds i = none) :
    r.placement ≠ .placed :=
  (slotAgrees_unnamed (unnamed_of_locate absent)).mp (h i) r (record?_writeRecord s i r)

/-- The claim's record is written PLACED again, its entry still names it. -/
theorem sheetsAgree_placed {t : State} (h : sheetsAgree (s.writeRecord i r)) (table : t.table = s.table)
    (names : sameNames s t) (placed : r.placement = .placed) :
    sheetsAgree (t.writeRecord i { r with placement := .placed }) := by
  refine sheetsAgree_write (i := i) h (fun j other => ?_) (fun j q id _ => names j q id) ?_
  · rw [record?_writeRecord_of_ne _ _ other, record?_writeRecord_of_ne _ _ other, table]
  · rw [record?_writeRecord]
    have here := h i
    rw [record?_writeRecord] at here
    exact (slotAgrees_congr (names i)).mpr 
      (slotAgrees_rewrite (r := r) (r' := { r with placement := .placed }) ⟨rfl, rfl, placed.symm⟩ here)

/-- A round is written with a new entry for a slot that none named: it is the slot's one entry. -/
theorem slotAgrees_new {t : State} {q : Fin 64} {x : Round} (absent : locate s.rounds i = none)
    (rounds : t.rounds = Vec.put s.rounds q x) (round : r.round = some q) (new : namedIn x.entries i r.binId)
    (only : ∀ id, namedIn x.entries i id → id = r.binId ∨ namedIn (s.round q).entries i id) :
    slotAgrees (some { r with placement := .placed }) (t.names i) := by
  have unnamed := unnamed_of_locate absent
  have names : ∀ u id, t.names i u id ↔ u = q ∧ id = r.binId := by
    intro u id
    unfold State.names
    rw [round_of_rounds rounds]
    split
    · rename_i at_q
      subst at_q
      refine ⟨fun named => ⟨rfl, (only id named).resolve_right (unnamed q id)⟩, ?_⟩
      rintro ⟨-, rfl⟩
      exact new
    · rename_i elsewhere
      exact ⟨fun named => absurd named (unnamed u id), fun same => absurd same.1.symm elsewhere⟩
  refine ⟨fun _ _ _ => ⟨q, r.binId, (names q _).mpr ⟨rfl, rfl⟩⟩, fun u id named => ?_⟩
  obtain ⟨rfl, rfl⟩ := (names u id).mp named
  exact ⟨_, rfl, rfl, rfl, round⟩

theorem names_setRound {t : State} {q : Fin 64} {x : Round} {j : Nat} (rounds : t.rounds = Vec.put s.rounds q x)
    (same : ∀ id, namedIn x.entries j id ↔ namedIn (s.round q).entries j id) (u : Fin 64) (id : Word32) :
    t.names j u id ↔ s.names j u id := by
  unfold State.names
  rw [round_of_rounds rounds]
  split
  · rename_i at_q; subst at_q; exact same id
  · exact Iff.rfl

theorem newEntry_unmarkedAt (epoch : Word32) (i j : Nat) (r : BinRecord) (c : EntryClass) :
    (newEntry epoch i r c).unmarkedAt j = decide (i = j) := by
  rw [Bool.eq_iff_iff, unmarkedAt_iff, decide_eq_true_iff]
  exact and_iff_right rfl

/-- A new entry in the place of a displaced last one, and the claim on the displaced bin's slot (R111). -/
theorem displace_agrees {q : Fin 64} {front : List Entry} {last : Entry} (c : EntryClass) (d : Word16)
    (wf : s.table.wf) (rounds : RoundLaw s) (unique : UnmarkedLaw s) (h : sheetsAgree (s.writeRecord i r))
    (absent : locate s.rounds i = none) (round : r.round = some q) (side : (s.round q).fill = front ++ [last]) :
    sheetsAgree ((claimUnplaced (s.setRound q { s.round q with
      fill := insertPlaced (newEntry s.time.epoch i r c) front, displaced := d }) last.slot).1.writeRecord i
      { r with placement := .placed }) := by
  have isLast : last.unmarkedAt last.slot = true := by
    obtain ⟨-, -, marks, -⟩ := rounds q
    exact (unmarkedAt_iff _ _).mpr ⟨marks last (by simp [side]), rfl⟩
  have other : last.slot ≠ i := by
    intro same
    refine unnamed_of_locate absent q last.binId ⟨last, by simp [Round.entries, side], same ▸ isLast, rfl⟩
  generalize hx : { s.round q with
    fill := insertPlaced (newEntry s.time.epoch i r c) front, displaced := d } = x
  have xFill : x.fill = insertPlaced (newEntry s.time.epoch i r c) front := by rw [← hx]
  have xOther : x.other = (s.round q).other := by rw [← hx]
  have away : ∀ {j : Nat}, j ≠ i → (newEntry s.time.epoch i r c).unmarkedAt j = false := fun other => by
    simp [newEntry_unmarkedAt, other.symm]
  have unnamed : ∀ u id, ¬ (s.setRound q x).names last.slot u id := by
    refine unnamed_setRound_remove unique rfl ?_
    simp only [Round.countP_entries, xFill, xOther, side, countP_insertPlaced, away other, List.countP_append,
      List.countP_singleton, isLast]
    simp
  obtain ⟨sameRounds, sameRecords, notPlaced⟩ :=
    claimUnplaced_unnamed (s := s.setRound q x) wf (locate_of_unnamed unnamed)
  have names : ∀ j u id, ((claimUnplaced (s.setRound q x) last.slot).1.writeRecord i
      { r with placement := .placed }).names j u id ↔ (s.setRound q x).names j u id :=
    fun j u id => sameNames_of_rounds sameRounds j u id
  intro j
  refine (slotAgrees_congr (names j)).mpr ?_
  by_cases at_i : j = i
  · subst at_i
    rw [record?_writeRecord]
    refine slotAgrees_new (s := s) (x := x) absent rfl round ?_ fun id named => ?_
    · rw [Round.entries, xFill, namedIn_append, namedIn_insertPlaced]
      exact .inl (.inl ⟨by simp [newEntry_unmarkedAt], rfl⟩)
    · rw [Round.entries, xFill, xOther, namedIn_append, namedIn_insertPlaced] at named
      rw [Round.entries, side, namedIn_append, namedIn_append]
      rcases named with (⟨-, rfl⟩ | named) | named
      · exact .inl rfl
      · exact .inr (.inl (.inl named))
      · exact .inr (.inr named)
  · rw [record?_writeRecord_of_ne _ _ at_i]
    by_cases at_last : j = last.slot
    · subst at_last
      exact (slotAgrees_unnamed unnamed).mpr notPlaced
    · rw [sameRecords j at_last]
      have before : slotAgrees (s.table.record? j) (s.names j) := by
        have written := h j
        rwa [record?_writeRecord_of_ne _ _ at_i] at written
      refine (slotAgrees_congr fun u id => names_setRound (x := x) rfl (fun id => ?_) u id).mpr before
      have notLast : last.unmarkedAt j = false := unmarkedAt_other isLast at_last
      simp [Round.entries, xFill, xOther, side, namedIn_append, namedIn_insertPlaced, namedIn_cons,
        away at_i, notLast]

/-- An upgraded entry names what it named (R109). -/
theorem namedIn_upgrade {before after : List Entry} {e : Entry} (epoch : Word32) (r : BinRecord) (c : EntryClass)
    (unmarked : e.mark = .none) (j : Nat) (id : Word32) :
    namedIn (insertPlaced (e.upgrade epoch r c) (before ++ after)) j id ↔ namedIn (before ++ e :: after) j id := by
  have same : (e.upgrade epoch r c).unmarkedAt j = e.unmarkedAt j := by
    simp [Entry.upgrade, Entry.unmarkedAt, unmarked]
  have sameId : (e.upgrade epoch r c).binId = e.binId := rfl
  rw [namedIn_insertPlaced, namedIn_append, namedIn_append, namedIn_cons, same, sameId]
  tauto

theorem place_agrees (c : EntryClass) (wf : s.table.wf) (rounds : RoundLaw s) (unique : UnmarkedLaw s)
    (h : sheetsAgree (s.writeRecord i r)) :
    sheetsAgree ((place s i r c).1.writeRecord i { r with placement := (place s i r c).2.placement r.placement }) := by
  rcases place_cases s i r c with ⟨done, -⟩ | ⟨u, w, done, found⟩ | ⟨u, l, done, found, up⟩ |
    ⟨u, l, done, found, -, up⟩ | ⟨done, absent⟩ | ⟨q, round, absent, ⟨-, -, done⟩ | ⟨front, last, -, side, -, done⟩⟩ <;>
    rw [done]
  · exact h
  · exact sheetsAgree_placed h rfl (sameNames_of_rounds rfl) (placed_of_locate h found).1
  · obtain ⟨before, e, after, old, named, -, rfl⟩ := upgradeSide_some up
    refine sheetsAgree_placed h rfl (sameNames_setRound (x := { s.round u with fill := _ }) rfl fun j id => ?_)
      (placed_of_locate h found).1
    rw [Round.entries, Round.entries, namedIn_append, namedIn_append, old,
      namedIn_upgrade _ _ _ ((unmarkedAt_iff _ _).mp named).1]
  · obtain ⟨before, e, after, old, named, -, rfl⟩ := upgradeSide_some up
    refine sheetsAgree_placed h rfl (sameNames_setRound (x := { s.round u with other := _ }) rfl fun j id => ?_)
      (placed_of_locate h found).1
    rw [Round.entries, Round.entries, namedIn_append, namedIn_append, old,
      namedIn_upgrade _ _ _ ((unmarkedAt_iff _ _).mp named).1]
  · refine sheetsAgree_write (i := i) h (fun j other => ?_) (fun _ _ _ _ => Iff.rfl) ?_
    · rw [record?_writeRecord_of_ne _ _ other, record?_writeRecord_of_ne _ _ other]
    · rw [record?_writeRecord]
      exact (slotAgrees_unnamed (unnamed_of_locate absent)).mpr (by simp [PlaceOutcome.placement])
  · have away : ∀ {j : Nat}, j ≠ i → (newEntry s.time.epoch i r c).unmarkedAt j = false := fun other => by
      simp [newEntry_unmarkedAt, other.symm]
    refine sheetsAgree_write (i := i) h (fun j other => ?_) (fun j u id other => ?_) ?_
    · rw [record?_writeRecord_of_ne _ _ other, record?_writeRecord_of_ne _ _ other]; rfl
    · refine names_setRound (s := s) (x := { s.round q with fill := _ }) rfl (fun id => ?_) u id
      simp [Round.entries, namedIn_append, namedIn_insertPlaced, away other]
    · rw [record?_writeRecord]
      refine slotAgrees_new (s := s) (x := { s.round q with fill := _ }) absent rfl round ?_ fun id named => ?_
      · rw [Round.entries, namedIn_append, namedIn_insertPlaced]
        exact .inl (.inl ⟨by simp [newEntry_unmarkedAt], rfl⟩)
      · simp only [Round.entries, namedIn_append, namedIn_insertPlaced] at named ⊢
        rcases named with (⟨-, rfl⟩ | named) | named
        · exact Or.inl rfl
        · exact Or.inr (Or.inl named)
        · exact Or.inr (Or.inr named)
  · exact displace_agrees c _ wf rounds unique h absent round side

end Place

end Sys2Proof.Machine
end

section
/-! PROOFS. Every step keeps placements and unmarked entries in agreement (O57), continued: the release, and the law. -/

namespace Sys2Proof.Machine

/-! ## The release (R129–R132) -/

/-- The slots agree with the entries that name them on the sides or, for round `q`, among the entries `l` that are being
carried over. -/
def agreeWith (q : Fin 64) (l : List Entry) (s : State) : Prop :=
  ∀ i, slotAgrees (s.table.record? i) fun u id => s.names i u id ∨ (u = q ∧ namedIn l i id)

section Carry

variable {s : State} {q : Fin 64} {e : Entry} {l : List Entry}

theorem agreeWith_nil : agreeWith q [] s ↔ sheetsAgree s :=
  forall_congr' fun _ => slotAgrees_congr fun _ _ => or_iff_left fun h => namedIn_nil h.2

theorem agreeWith_congr {t : State} {l' : List Entry} (records : ∀ i, t.table.record? i = s.table.record? i)
    (names : ∀ i u id, (t.names i u id ∨ (u = q ∧ namedIn l' i id)) ↔ (s.names i u id ∨ (u = q ∧ namedIn l i id)))
    (h : agreeWith q l s) : agreeWith q l' t := by
  intro i
  rw [records]
  exact (slotAgrees_congr (names i)).mpr (h i)

/-- The names after a round is written. -/
theorem names_setRound_iff {t : State} {x : Round} (rounds : t.rounds = Vec.put s.rounds q x) (i : Nat) (u : Fin 64)
    (id : Word32) : t.names i u id ↔ if q = u then namedIn x.entries i id else s.names i u id := by
  unfold State.names
  rw [round_of_rounds rounds]
  split <;> rfl

/-- The entry carried over now stands on the round's FILL side. -/
theorem agreeWith_carry (h : agreeWith q (e :: l) s) : agreeWith q l (s.setRound q { s.round q with
    fill := insertCarried { e with carried := true } (s.round q).fill }) := by
  refine agreeWith_congr (s := s) (l := e :: l) (fun _ => rfl) (fun i u id => ?_) h
  rw [names_setRound_iff (s := s) (x := { s.round q with fill := _ }) rfl, Round.entries, namedIn_append, namedIn_insertCarried,
    namedIn_cons]
  split
  · rename_i same
    subst same
    simp only [State.names, Round.entries, namedIn_append, true_and]
    tauto
  · rename_i other
    simp only [Ne.symm other, false_and]

/-- A claim on the slot of a bin whose entry has left the sides and the carry-over. -/
theorem agreeWith_claim {i : Nat} (wf : s.table.wf) (absent : locate s.rounds i = none) (notCarried : ∀ id, ¬ namedIn l i id)
    (others : ∀ j, j ≠ i → slotAgrees (s.table.record? j) fun u id => s.names j u id ∨ (u = q ∧ namedIn l j id)) :
    agreeWith q l (claimUnplaced s i).1 := by
  intro j
  have claimed := claimUnplaced_agrees (N := fun j u id => s.names j u id ∨ (u = q ∧ namedIn l j id)) wf absent
    (fun u id => not_or.mpr ⟨unnamed_of_locate absent u id, fun h => notCarried id h.2⟩) others j
  refine (slotAgrees_congr fun u id => ?_).mpr claimed
  rw [sameNames_of_rounds (claimUnplaced_unnamed wf absent).1 j u id]

theorem notNamed_of_count {i : Nat} (h : l.countP (Entry.unmarkedAt i) = 0) (id : Word32) : ¬ namedIn l i id := by
  rintro ⟨e, mem, unmarked, -⟩
  exact List.countP_eq_zero.mp h e mem unmarked

/-- An entry that finds no place: its bin becomes UNPLACED. -/
theorem agreeWith_drop (wf : s.table.wf) (unmarked : e.mark = .none) (unique : uniqueWith (e :: l) s)
    (h : agreeWith q (e :: l) s) : agreeWith q l (claimUnplaced (s.setFree (s.free + 1)) e.slot).1 := by
  have named : e.unmarkedAt e.slot = true := (unmarkedAt_iff _ _).mpr ⟨unmarked, rfl⟩
  have once := unique e.slot
  rw [List.countP_cons, if_pos named] at once
  refine agreeWith_claim wf (locate_of_unnamed (s := s) (unnamed_of_total (by omega))) (notNamed_of_count (by omega))
    fun j other => ?_
  refine (slotAgrees_congr fun u id => ?_).mpr (h j)
  rw [namedIn_cons, unmarkedAt_other named other]
  simp [State.names, State.round]

/-- An entry put in place of a last one, whose bin becomes UNPLACED. -/
theorem agreeWith_displace {front : List Entry} {last : Entry} (d : Word16) (wf : s.table.wf)
    (lastUnmarked : last.mark = .none) (unique : uniqueWith (e :: l) s)
    (side : (s.round q).fill = front ++ [last]) (h : agreeWith q (e :: l) s) :
    agreeWith q l (claimUnplaced ((s.setRound q { s.round q with
      fill := insertCarried { e with carried := true } front, displaced := d }).setFree (s.free + 1)) last.slot).1 := by
  have isLast : last.unmarkedAt last.slot = true := (unmarkedAt_iff _ _).mpr ⟨lastUnmarked, rfl⟩
  generalize hx : { s.round q with fill := insertCarried { e with carried := true } front, displaced := d } = x
  have xFill : x.fill = insertCarried { e with carried := true } front := by rw [← hx]
  have xOther : x.other = (s.round q).other := by rw [← hx]
  have once := unique last.slot
  have written := total_setRound (Entry.unmarkedAt last.slot) s q x
  have here := count_one_round (s := s) (q := q) (Entry.unmarkedAt last.slot)
  have sameMark : ({ e with carried := true } : Entry).unmarkedAt last.slot = e.unmarkedAt last.slot := rfl
  simp only [Round.countP_entries, xFill, xOther, side, countP_insertCarried, List.countP_append,
    isLast, if_true, List.countP_cons, sameMark] at once written here
  refine agreeWith_claim wf (locate_of_unnamed (s := s.setRound q x) (unnamed_of_total (by omega)))
    (notNamed_of_count (by omega)) fun j other => ?_
  refine (slotAgrees_congr fun u id => ?_).mpr (h j)
  rw [names_setRound_iff (s := s) (x := x) rfl, Round.entries, namedIn_append, xFill, xOther, namedIn_insertCarried,
    namedIn_cons]
  have notLast : last.unmarkedAt j = false := unmarkedAt_other isLast other
  split
  · rename_i same
    subst same
    simp only [State.names, Round.entries, side, namedIn_append, namedIn_cons, notLast, Bool.false_eq_true, false_and,
      namedIn_nil, or_false, true_and]
    tauto
  · rename_i elsewhere
    simp only [Ne.symm elsewhere, false_and]

/-- What holds of the part while round `q` is released and the entries `l` wait to be carried over. -/
def releasing (q : Fin 64) (l : List Entry) (s : State) : Prop :=
  s.table.wf ∧ roundsReleasing q l s ∧ ((s.round q).otherState = .free ∧ uniqueWith l s) ∧ agreeWith q l s

theorem carryOne_releasing (g : Figures) (h : releasing q (e :: l) s) : releasing q l (carryOne q (s, g) e).1 := by
  obtain ⟨wf, rounds, unique, agree⟩ := h
  refine ⟨BinTable.claimed_wf (carryOne_claimed q (s, g) e) wf, rounds_sideLaw.carryOne_keeps g rounds,
    unmarked_sideLaw.carryOne_keeps g unique, ?_⟩
  obtain ⟨sides, -, carriedMarks⟩ := rounds
  obtain ⟨-, -, marks, -, -, -, -⟩ := Round.heldIf_sides (sides q)
  by_cases room : (s.round q).fill.length < (s.round q).cap
  · rw [carryOne_room room]
    exact agreeWith_carry agree
  · by_cases displaces : ∃ last, (s.round q).fill.getLast? = some last ∧ last.cls.lower e.cls = true
    · obtain ⟨last, isLast, lower⟩ := displaces
      have side := (List.dropLast_append_getLast? last isLast).symm
      rw [carryOne_displaces room isLast lower]
      exact agreeWith_displace _ wf (marks last (by rw [side]; simp)) unique.2 side agree
    · have notLower : ∀ last, (s.round q).fill.getLast? = some last → last.cls.lower e.cls = false :=
        fun last isLast => Bool.eq_false_iff.mpr fun lower => displaces ⟨last, isLast, lower⟩
      have dropped := agreeWith_drop wf (carriedMarks e (List.mem_cons_self ..)) unique.2 agree
      rw [carryOne_drops room notLower]
      dsimp only
      split
      · refine agreeWith_congr (s := (claimUnplaced (s.setFree (s.free + 1)) e.slot).1) (l := l) (fun _ => by simp)
          (fun i u id => ?_) dropped
        rw [sameNames_of_rounds (s := (claimUnplaced (s.setFree (s.free + 1)) e.slot).1) (by simp) i u id]
      · exact dropped

theorem carryAll_releasing (l : List Entry) : ∀ (s : State) (g : Figures), releasing q l s →
    releasing q [] (l.foldl (carryOne q) (s, g)).1 := by
  induction l with
  | nil => exact fun _ _ h => h
  | cons e l ih => exact fun s g h => ih _ _ (carryOne_releasing g h)

end Carry

/-- A release keeps the agreement. -/
theorem releaseSide_agrees {s : State} {p : Fin 4} {q : Fin 64} (reads : (s.port p).state.reads = some q)
    (wf : s.table.wf) (rounds : RoundLaw s) (unique : UnmarkedLaw s) (h : sheetsAgree s) :
    sheetsAgree (releaseSide s p q).1 := by
  have start : releasing q ((s.round q).other.filter fun e => !e.marked)
      (((s.setRound q { s.round q with otherState := .free, other := [] }).setFree
        (s.free + (s.round q).other.countP Entry.marked)).setPort p ⟨.waiting q, 0, 0, false⟩) := by
    refine ⟨wf, rounds_sideLaw.onHandBack reads rounds, unmarked_sideLaw.onHandBack reads (uniqueWith_nil ▸ unique), ?_⟩
    refine agreeWith_congr (s := s) (l := []) (fun _ => rfl) (fun i u id => ?_) (agreeWith_nil.mpr h)
    rw [names_setRound_iff (s := s) (x := { s.round q with otherState := .free, other := [] }) rfl, Round.entries,
      List.append_nil, namedIn_unmarked]
    split
    · rename_i same
      subst same
      simp only [State.names, Round.entries, namedIn_append, namedIn_nil, and_false, or_false, true_and]
    · rename_i other
      simp only [Ne.symm other, false_and]
  have back : releasing q [] (handBack s p q).1 := carryAll_releasing _ _ _ start
  obtain ⟨-, backRounds, -, agree⟩ := back
  have cleared : RoundLaw ((handBack s p q).1.clearHeld q) := rounds_sideLaw.onComplete backRounds
  have clearedAgree : sheetsAgree ((handBack s p q).1.clearHeld q) :=
    sheetsAgree_congr (sameNames_setRound (x := { (handBack s p q).1.round q with held := false }) rfl fun _ _ => Iff.rfl)
      (fun _ => rfl) (agreeWith_nil.mp agree)
  have handed := handBack_round (s := s) (p := p) (q := q)
  cases held : (s.round q).held with
  | false =>
    have completed := completeCutoff_notHeld (handed.2.2.trans held)
    simpa only [releaseSide, completed] using clearedAgree
  | true =>
    rw [held] at handed
    have completed := completeCutoff_held handed
    simp only [releaseSide, completed]
    exact sheetsAgree_congr (cutoff_sameNames q cleared) (fun _ => by simp) clearedAgree

/-! ## The law of the sheets (R102, R106) -/

theorem record?_fail (l : List (Nat × Word16)) : ∀ (t : BinTable) (i : Nat), (t.fail l).record? i = t.record? i := by
  induction l with
  | nil => exact fun _ _ => rfl
  | cons p l ih =>
    intro t i
    obtain ⟨j, d⟩ := p
    unfold BinTable.fail
    split
    · rename_i r old live
      rw [ih]
      by_cases same : i = j
      · subst same
        rw [record?_put_live, record?_eq_some.mpr ⟨old, live⟩]
      · exact record?_put_of_ne _ _ _ same
    · exact ih t i

/-- The laws that the agreement of placements and sheets rests on. -/
theorem agreement_base : SheetLaw (fun t => (t.wf ∧ True) ∧ True) (fun _ => True)
    fun s => (s.table.wf ∧ RoundLaw s) ∧ UnmarkedLaw s :=
  (wf_tableLaw.sheetLaw.and rounds_sideLaw.sheetLaw).and unmarked_sheetLaw

/-- A slot is emptied of its record and of the entry that names it. -/
theorem sheetsAgree_emptied {s t : State} {i : Nat} {v : Slot} {m : Mark} (wf : s.table.wf) (unique : UnmarkedLaw s)
    (hm : m ≠ .none) (dead : v.isLive = false) (table : t.table = s.table.put i v)
    (rounds : t.rounds = (detach s i m).rounds) (h : sheetsAgree s) : sheetsAgree t := by
  obtain ⟨unnamed, others⟩ := detach_names i hm unique
  have names := sameNames_of_rounds rounds
  refine sheetsAgree_write (i := i) h (fun j other => ?_) (fun j u id other => (names j u id).trans (others j u id other)) ?_
  · rw [table, record?_put_of_ne _ _ _ other]
  · rw [table, record?_put_dead _ _ wf dead]
    refine (slotAgrees_unnamed fun u id named => unnamed u id ((names i u id).mp named)).mpr ?_
    simp

/-- Where no claim on the Bin Table is made, any table may stand. -/
theorem sheetsAgree_anyTable {s t : State} {x : BinTable} (names : sameNames s t) (h : sheetsAgree (s.setTable x)) :
    sheetsAgree (t.setTable x) := sheetsAgree_congr (s := s.setTable x) names (fun _ => rfl) h

/-- A failed check code withdraws its slot's entry, on the sides as they stood (R24). -/
theorem storeError_rounds (s : State) (i : Nat) : (storeError s i).rounds = (detach s i .withdrawn).rounds := by
  simp only [storeError, detach, stop_frame, setTable_rounds]
  split
  · simp
  · simp [State.round]
  · split <;> simp_all [State.round]

theorem sheetsAgree_reclaimed {s : State} {i : Nat} (wf : s.table.wf) (tombstone : s.table.get i = .tombstone)
    (h : sheetsAgree s) : sheetsAgree (s.setTable (s.table.put i .empty)) := by
  refine sheetsAgree_write (i := i) h (fun j other => record?_put_of_ne _ _ _ other) (fun _ _ _ _ => Iff.rfl) ?_
  have before := h i
  rw [show s.table.record? i = none by simp [BinTable.record?, tombstone]] at before
  rw [setTable_table, record?_put_dead _ _ wf rfl]
  exact before

theorem sheetsAgree_restarted (s : State) : sheetsAgree (restartTable s) := by
  intro i
  have unnamed : ∀ u id, ¬ (restartTable s).names i u id := by
    intro u id named
    have round : (restartTable s).round u = (s.round u).restart := Vec.get_map ..
    rw [State.names, round] at named
    exact namedIn_nil named
  refine (slotAgrees_unnamed unnamed).mpr fun r holds => ?_
  obtain ⟨d, live⟩ := record?_eq_some.mp holds
  have restarted : ((s.table.get i).restart) = .live r d := (BinTable.get_restart s.table i).symm.trans live
  obtain ⟨x, e, p, -, rfl, notPlaced⟩ := Slot.restart_live restarted
  exact notPlaced

theorem sheetsAgree_inserted {s : State} {i : Nat} {b : Word32} {r : BinRecord} (usable : usableSlot s.table b = some i)
    (notPlaced : r.placement = .none) (h : sheetsAgree s) : sheetsAgree (s.writeRecord i r) := by
  have vacant : s.table.record? i = none := by
    rcases (usableSlot_spec usable).2 with empty | tombstone
    · simp [BinTable.record?, empty]
    · simp [BinTable.record?, tombstone]
  have unnamed : ∀ u id, ¬ s.names i u id := fun u id named => by
    obtain ⟨x, holds, -⟩ := (h i).2 u id named
    rw [vacant] at holds
    cases holds
  refine sheetsAgree_write (i := i) h (fun j other => record?_writeRecord_of_ne _ _ other) (fun _ _ _ _ => Iff.rfl) ?_
  rw [record?_writeRecord]
  exact (slotAgrees_unnamed unnamed).mpr (by rintro _ ⟨⟩; rw [notPlaced]; decide)

theorem sheetsAgree_rewritten {s : State} {i : Nat} {r r' : BinRecord} {d : Word16} (live : s.table.get i = .live r d)
    (same : sameForSheets r r') (h : sheetsAgree s) : sheetsAgree (s.writeRecord i r') := by
  refine sheetsAgree_write (i := i) h (fun j other => record?_writeRecord_of_ne _ _ other) (fun _ _ _ _ => Iff.rfl) ?_
  rw [record?_writeRecord]
  have before := h i
  rw [record?_eq_some.mpr ⟨d, live⟩] at before
  exact slotAgrees_rewrite same before

theorem sheetsAgree_withdrawn {s : State} {i : Nat} {r r' : BinRecord} {m : Mark} (hm : m ≠ .none)
    (unique : UnmarkedLaw s) (notPlaced : r'.placement = .none) (h : sheetsAgree (s.writeRecord i r)) :
    sheetsAgree ((detach s i m).writeRecord i r') := by
  obtain ⟨unnamed, others⟩ := detach_names i hm unique
  refine sheetsAgree_write (i := i) h (fun j other => ?_) others ?_
  · rw [record?_writeRecord_of_ne _ _ other, record?_writeRecord_of_ne _ _ other]
    simp
  · rw [record?_writeRecord]
    exact (slotAgrees_unnamed unnamed).mpr (by rintro _ ⟨⟩; rw [notPlaced]; decide)

theorem agreement_sheetLaw : SheetLaw (fun t => (t.wf ∧ True) ∧ True) (fun _ => True)
    fun s => ((s.table.wf ∧ RoundLaw s) ∧ UnmarkedLaw s) ∧ sheetsAgree s where
  records := anyRecord
  congr same h := ⟨agreement_base.congr same h.1,
    sheetsAgree_congr (sameNames_of_rounds same.2.1) (fun _ => by rw [same.1]) h.2⟩
  onReset := ⟨agreement_base.onReset, (placementLaw_iff _).mp placementLaw_reset⟩
  ofTable h := agreement_base.ofTable h.1
  ofRecord _ _ := trivial
  onCutoff q h := ⟨agreement_base.onCutoff q h.1, sheetsAgree_anyTable (cutoff_sameNames q h.1.1.2) h.2⟩
  onReturnSide reads h := ⟨agreement_base.onReturnSide reads h.1,
    sheetsAgree_anyTable (returnSide_sameNames _ _ _) h.2⟩
  onLooseEnds {s t p q} waiting h := ⟨agreement_base.onLooseEnds waiting h.1,
    sheetsAgree_anyTable (sameNames_setRound (x := { s.round q with bound := none }) rfl fun _ _ => Iff.rfl) h.2⟩
  onBindPort unbound free h := ⟨agreement_base.onBindPort unbound free h.1,
    sheetsAgree_anyTable (bindPort_sameNames _ _ _) h.2⟩
  onRewindPort reads h := ⟨agreement_base.onRewindPort reads h.1,
    sheetsAgree_anyTable (rewindPort_sameNames _ _ _) h.2⟩
  onConfigure {s t q o} range cap fill other h := ⟨agreement_base.onConfigure range cap fill other h.1,
    sheetsAgree_anyTable (sameNames_setRound (x := (s.round q).configure o) rfl fun _ _ => Iff.rfl) h.2⟩
  onDraw n reading h := ⟨agreement_base.onDraw n reading h.1,
    sheetsAgree_congr (moveCursor_sameNames _ _ _ _) (fun _ => by simp) h.2⟩
  onUsed exhausted h := ⟨agreement_base.onUsed exhausted h.1,
    sheetsAgree_congr (sameNames_of_rounds rfl) (fun _ => rfl) h.2⟩
  onRelease reads h := ⟨agreement_base.onRelease reads h.1, releaseSide_agrees reads h.1.1.1 h.1.1.2 h.1.2 h.2⟩
  onAge n h := ⟨agreement_base.onAge n h.1, sheetsAgree_congr (sameNames_of_rounds rfl) (fun _ => rfl) h.2⟩
  onFail {s} l h := ⟨agreement_base.onFail l h.1,
    sheetsAgree_congr (s := s) (sameNames_of_rounds rfl) (fun i => record?_fail l s.table i) h.2⟩
  onError {s i} holds h := ⟨agreement_base.onError holds h.1,
    sheetsAgree_emptied (m := .withdrawn) h.1.1.1 h.1.2 (by decide) rfl (storeError_table s i)
      (storeError_rounds s i) h.2⟩
  onDrop {s i} holds h := ⟨agreement_base.onDrop holds h.1,
    sheetsAgree_emptied (i := i) (m := .withdrawn) (v := .tombstone) h.1.1.1 h.1.2 (by decide) rfl (by simp [dropSlot])
      (by simp [dropSlot]) h.2⟩
  onReclaim {s i} tombstone next h := ⟨agreement_base.onReclaim tombstone next h.1,
    sheetsAgree_reclaimed h.1.1.1 tombstone h.2⟩
  onRestart h := ⟨agreement_base.onRestart h.1, sheetsAgree_restarted _⟩
  onInsert absent usable none _ h := ⟨agreement_base.onInsert absent usable none trivial h.1,
    sheetsAgree_inserted usable none h.2⟩
  onRewrite live same _ h := ⟨agreement_base.onRewrite live same trivial h.1, sheetsAgree_rewritten live same h.2⟩
  onWithdraw hm id none _ hW h := ⟨agreement_base.onWithdraw hm id none trivial hW h.1,
    sheetsAgree_withdrawn hm h.1.2 none h.2⟩
  onPlace c _ hW h := ⟨agreement_base.onPlace c trivial hW h.1, place_agrees c hW.1.1 h.1.1.2 h.1.2 h.2⟩

/-- Settles O57: the agreement is a law of the sheets, together with the laws it rests on. -/
theorem placementAgreesWithSheets : Obligations.PlacementAgreesWithSheets := by
  have laws : (fun s : State => s.table.wf ∧ RoundLaw s ∧ UnmarkedLaw s ∧ PlacementLaw s) =
      fun s => ((s.table.wf ∧ RoundLaw s) ∧ UnmarkedLaw s) ∧ sheetsAgree s := by
    funext s
    exact propext ⟨fun ⟨wf, rounds, unique, placed⟩ => ⟨⟨⟨wf, rounds⟩, unique⟩, (placementLaw_iff s).mp placed⟩,
      fun ⟨⟨⟨wf, rounds⟩, unique⟩, agree⟩ => ⟨wf, rounds, unique, (placementLaw_iff s).mpr agree⟩⟩
  unfold Obligations.PlacementAgreesWithSheets
  rw [laws]
  exact agreement_sheetLaw.kept

end Sys2Proof.Machine
end

section
/-! PROOFS. The law of the Notice Unit, one lemma per operation on it. -/

namespace Sys2Proof.Machine

namespace Notices

variable {n m : Notices}

/-- Every status on the list is enabled, and set unless it is HELD; none stands there twice. -/
def listed (n : Notices) : Prop :=
  n.list.Nodup ∧ (∀ i ∈ n.list, n.isEnabled i = true) ∧ ∀ i ∈ n.list, i ≠ .held → n.isSet i = true

/-- HELD and STOPPED have their data exactly while they are set. -/
def dataAgree (n : Notices) : Prop :=
  n.heldCause.isSome = n.held.set ∧ n.stoppedSlot.isSome = n.stopped.set

/-- The law of the Notice Unit. -/
def lawful (n : Notices) : Prop := n.listed ∧ n.dataAgree

end Notices

theorem noticeLaw_iff (s : State) : NoticeLaw s ↔ s.notices.lawful := by
  unfold NoticeLaw Notices.lawful Notices.listed Notices.dataAgree
  tauto

namespace Notices

variable {n m : Notices} {i : StatusId}

/-! ## The list -/

/-- A shorter list of the same statuses is still in order. -/
theorem listed_of_sublist (sub : m.list.Sublist n.list) (enabled : ∀ j ∈ m.list, m.isEnabled j = n.isEnabled j)
    (set : ∀ j ∈ m.list, j ≠ .held → m.isSet j = n.isSet j) (h : n.listed) : m.listed := by
  obtain ⟨nodup, allEnabled, allSet⟩ := h
  exact ⟨nodup.sublist sub, fun j mem => (enabled j mem).trans (allEnabled j (sub.subset mem)),
    fun j mem notHeld => (set j mem notHeld).trans (allSet j (sub.subset mem) notHeld)⟩

/-- A status that an event sets joins the list in order (R182). -/
theorem listed_of_joined (list : m.list = joined n i) (enabled : ∀ j, m.isEnabled j = n.isEnabled j)
    (set : m.isSet i = true) (kept : ∀ j, j ≠ i → m.isSet j = n.isSet j) (h : n.listed) : m.listed := by
  obtain ⟨nodup, allEnabled, allSet⟩ := h
  have setOfOld : ∀ j ∈ n.list, j ≠ .held → m.isSet j = true := by
    intro j mem notHeld
    by_cases same : j = i
    · exact same ▸ set
    · exact (kept j same).trans (allSet j mem notHeld)
  unfold joined at list
  unfold listed
  rw [list]
  split
  · exact ⟨nodup, fun j mem => (enabled j).trans (allEnabled j mem), setOfOld⟩
  · rename_i joins
    simp only [not_or, Bool.not_eq_true, Bool.not_eq_false] at joins
    obtain ⟨-, on, absent⟩ := joins
    refine ⟨nodup.append (List.nodup_singleton i) (by simpa using absent), fun j mem => ?_, fun j mem notHeld => ?_⟩
    · rw [enabled]
      rcases List.mem_append.mp mem with old | new
      · exact allEnabled j old
      · exact List.mem_singleton.mp new ▸ on
    · rcases List.mem_append.mp mem with old | new
      · exact setOfOld j old notHeld
      · exact List.mem_singleton.mp new ▸ set

/-! ## Events -/

theorem lawful_raiseRound (q : Fin 64) (w : RoundStatus) (h : n.lawful) : (n.raise (.round q w)).lawful := by
  have flag : ∀ r v, (n.raise (.round q w)).roundFlag r v =
      if q = r ∧ w = v then ⟨true, (n.roundFlag q w).enabled⟩ else n.roundFlag r v := by
    intro r v
    have spelled : (n.raise (.round q w)).roundFlag r v =
        (n.putRoundFlag q w ⟨true, (n.roundFlag q w).enabled⟩).roundFlag r v := by
      rw [raise_round_spelled]
      cases w <;> rfl
    rw [spelled, roundFlag_putRoundFlag]
  refine ⟨listed_of_joined (i := .round q w) (by rw [raise_round_spelled]; rfl) (fun j => ?_) ?_ (fun j other => ?_) h.1,
    ?_⟩
  · cases j with
    | round r v =>
      simp only [isEnabled, flag]
      split
      · rename_i same
        rw [same.1, same.2]
      · rfl
    | _ => rw [raise_round_spelled]; rfl
  · simp [isSet, flag]
  · cases j with
    | round r v =>
      simp only [isSet, flag]
      rw [if_neg fun same => other (by rw [same.1, same.2])]
    | _ => rw [raise_round_spelled]; rfl
  · rw [raise_round_spelled]
    exact h.2

theorem lawful_note (k : Kind) (x : Option Subject) (c : Word32) (h : n.lawful) : (n.note k x c).lawful := by
  refine ⟨listed_of_joined (i := .cond k) ?_ (fun j => ?_) ?_ (fun j other => ?_) h.1, ?_⟩ <;> rw [note_eq]
  · simp [joined, isEnabled]
  · cases j <;> rfl
  · simp [isSet]
  · cases j with
    | cond l =>
      simp only [isSet, Vec.get_put]
      rw [if_neg fun same => other (by rw [Kind.idx_injective same])]
    | _ => rfl
  · exact h.2

theorem lawful_raiseHeld (c : Cause) (h : n.lawful) : (n.raiseHeld c).lawful := by
  obtain ⟨list, -, slot⟩ := h
  rw [raiseHeld_spelled]
  refine ⟨listed_of_joined (i := .held) rfl (fun j => ?_) rfl (fun j other => ?_) list, rfl, slot⟩
  · cases j <;> rfl
  · cases j with
    | held => exact absurd rfl other
    | _ => rfl

theorem lawful_recauseHeld (c : Cause) (h : n.lawful) : (n.recauseHeld c).lawful := by
  have ⟨list, _, slot⟩ := h
  unfold recauseHeld
  split
  · rename_i set
    refine ⟨listed_of_sublist (List.Sublist.refl _) (fun j _ => ?_) (fun j _ _ => ?_) list, set.symm, slot⟩ <;>
      cases j <;> rfl
  · exact h

theorem lawful_clearHeld (h : n.lawful) : n.clearHeld.lawful := by
  obtain ⟨list, -, slot⟩ := h
  refine ⟨listed_of_sublist (n := n) (List.Sublist.refl n.list) (fun j _ => ?_) (fun j _ notHeld => ?_) list, rfl, slot⟩
  · cases j <;> rfl
  · cases j with
    | held => exact absurd rfl notHeld
    | _ => rfl

theorem lawful_raiseSweepDone (h : n.lawful) : (n.raise .sweepDone).lawful := by
  have spelled : n.raise .sweepDone =
      { n with sweepDone := { n.sweepDone with set := true }, list := joined n .sweepDone } := by
    rcases n with ⟨r, cs, h, hc, ⟨set, enabled⟩, st, sl, l⟩
    unfold raise joined
    simp only [isSet, isEnabled, owe, markSet]
    cases set <;> cases enabled <;> by_cases h : StatusId.sweepDone ∈ l <;> simp [h]
  rw [spelled]
  refine ⟨listed_of_joined (i := .sweepDone) rfl (fun j => ?_) rfl (fun j other => ?_) h.1, h.2⟩
  · cases j <;> rfl
  · cases j with
    | sweepDone => exact absurd rfl other
    | _ => rfl

theorem lawful_raiseStopped (slot : Nat) (h : n.lawful) : (n.raiseStopped slot).lawful := by
  obtain ⟨list, cause, agrees⟩ := h
  rw [raiseStopped_spelled]
  refine ⟨listed_of_joined (i := .stopped) rfl (fun j => ?_) rfl (fun j other => ?_) list, cause, ?_⟩
  · cases j <;> rfl
  · cases j with
    | stopped => exact absurd rfl other
    | _ => rfl
  · show (if n.stopped.set = true then n.stoppedSlot else some slot).isSome = true
    split
    · rename_i set
      exact agrees.trans set
    · rfl

/-! ## Requests, RESTART, the building of a notice -/

theorem lawful_clear (i : StatusId) (h : n.lawful) : (n.clear i).lawful := by
  obtain ⟨list, cause, slot⟩ := h
  refine ⟨listed_of_sublist (by rw [clear_list]; exact List.filter_sublist) (fun j _ => clear_isEnabled ..)
    (fun j mem _ => ?_) list, ?_, ?_⟩
  · rw [clear_list] at mem
    rw [clear_isSet, if_neg (by simpa using (List.mem_filter.mp mem).2)]
  · rw [clear_heldCause, show (n.clear i).held.set = (n.clear i).isSet .held from rfl, clear_isSet]
    split
    · rfl
    · exact cause
  · rw [clear_stoppedSlot, show (n.clear i).stopped.set = (n.clear i).isSet .stopped from rfl, clear_isSet]
    split
    · rfl
    · exact slot

theorem lawful_clears (l : List StatusId) : ∀ n : Notices, n.lawful → (l.foldl clear n).lawful := by
  induction l with
  | nil => exact fun n h => h
  | cons i l ih => exact fun n h => ih _ (lawful_clear i h)

theorem dataAgree_enable (i : StatusId) (on : Bool) (h : n.dataAgree) : (n.enable i on).dataAgree := by
  obtain ⟨-, cause, slot⟩ := enable_sameData n i on
  refine ⟨?_, ?_⟩
  · rw [cause, show (n.enable i on).held.set = (n.enable i on).isSet .held from rfl, enable_isSet]
    exact h.1
  · rw [slot, show (n.enable i on).stopped.set = (n.enable i on).isSet .stopped from rfl, enable_isSet]
    exact h.2

theorem listed_enable (on : Bool) (notCond : ∀ k, i ≠ .cond k) (h : n.listed) : (n.enable i on).listed := by
  have enables := fun j => enable_isEnabled n i j on notCond
  have sets := fun j => enable_isSet n i j on
  obtain ⟨nodup, allEnabled, allSet⟩ := h
  unfold listed
  simp only [enables, sets, enable_list]
  refine ⟨(nodup.filter _).append (by split <;> simp) ?_, fun j mem => ?_, fun j mem notHeld => ?_⟩
  · split
    · rename_i joins
      simp [joins.2.2.2]
    · simp
  · rcases List.mem_append.mp mem with old | new
    · obtain ⟨old, stays⟩ := List.mem_filter.mp old
      have on' := allEnabled j old
      split
      · rename_i same
        subst same
        cases on
        · simp [on'] at stays
        · rfl
      · exact on'
    · split at new
      · rename_i joins
        rw [if_pos (List.mem_singleton.mp new), joins.2.1]
      · cases new
  · rcases List.mem_append.mp mem with old | new
    · exact allSet j (List.mem_filter.mp old).1 notHeld
    · split at new
      · rename_i joins
        exact List.mem_singleton.mp new ▸ joins.2.2.1
      · cases new

theorem lawful_writeEnables (l : List (StatusId × Bool)) :
    ∀ n : Notices, (∀ x ∈ l, ∀ k, x.1 ≠ .cond k) → n.lawful → (writeEnables n l).lawful := by
  induction l with
  | nil => exact fun n _ h => h
  | cons x l ih =>
    intro n notCond h
    exact ih _ (fun y mem => notCond y (List.mem_cons_of_mem _ mem))
      ⟨listed_enable x.2 (notCond x (List.mem_cons_self ..)) h.1, dataAgree_enable x.1 x.2 h.2⟩

theorem lawful_restart (n : Notices) : n.restart.lawful :=
  ⟨⟨List.nodup_nil, fun _ mem => absurd mem List.not_mem_nil, fun _ mem => absurd mem List.not_mem_nil⟩, rfl, rfl⟩

theorem lawful_built {rest : List StatusId} (list : n.list = i :: rest) (h : n.lawful) :
    ({ n with list := rest } : Notices).lawful := by
  refine ⟨listed_of_sublist (n := n) (by rw [list]; exact List.sublist_cons_self ..) (fun j _ => ?_) (fun j _ _ => ?_) h.1,
    h.2⟩ <;> cases j <;> rfl

end Notices

/-- NOTICE ENABLE names no condition status (R183). -/
theorem enablesNamed_notCond {scope round flags : Byte} {l : List (StatusId × Bool)}
    (h : enablesNamed scope round flags = some l) : ∀ x ∈ l, ∀ k, x.1 ≠ .cond k := by
  have ofRound : ∀ f q, ∀ x ∈ roundFlagsOf f q, ∀ k, x.1 ≠ .cond k := by
    intro f q x mem k
    simp only [roundFlagsOf, List.mem_cons, List.not_mem_nil, or_false] at mem
    rcases mem with rfl | rfl | rfl <;> exact nofun
  unfold enablesNamed at h
  split at h
  · cases h
  · rename_i f flagsRead
    split at h
    · cases named : index? 64 round with
      | none => rw [named] at h; cases h
      | some q =>
        rw [named] at h
        obtain rfl := Option.some.inj h
        exact ofRound f q
    · obtain rfl := Option.some.inj h
      intro x mem
      obtain ⟨q, -, mem⟩ := List.mem_flatMap.mp mem
      exact ofRound f q x mem
    · obtain rfl := Option.some.inj h
      intro x mem k
      simp only [List.mem_cons, List.not_mem_nil, or_false] at mem
      rcases mem with rfl | rfl | rfl <;> exact nofun
    · cases h

end Sys2Proof.Machine
end

section
/-! PROOFS. The laws of the blocks (O59, O60): what a step does to the Intake Unit, and that it keeps the laws of the
link, the statuses, the sweep, the clocks and the settings. This chunk: the relation, one rule per block written, and
the shared operations of conditions and sheets. -/

namespace Sys2Proof.Machine

/-! ## The laws as laws of blocks -/

/-- The law of the Intake Unit. -/
def Intake.lawful (x : Intake) : Prop :=
  x.queue.length ≤ 256 ∧ x.accepted - x.taken = BitVec.ofNat 32 x.queue.length ∧
  (x.inFlight.isSome → x.queue ≠ []) ∧ x.window.length ≤ 128 ∧ (x.window.map fun e => (e.binId, e.seq)).Nodup

/-- The law of the link queues. -/
def Link.lawful (l : Link) : Prop :=
  l.uplink.length + (if l.reserved then 1 else 0) ≤ 64 ∧ l.downlink.length ≤ 8

/-- What the law of the Sweep Engine says of the engine alone. -/
def Sweep.lawful (w : Sweep) : Prop :=
  w.cursor ≤ 8191 ∧ (w.running = true → w.endReason = none ∧ w.startEpoch.isSome ∧
    w.visited = BitVec.ofNat 32 (8191 - w.cursor))

/-- The law of the Time Base. -/
def TimeBase.lawful (t : TimeBase) : Prop :=
  t.second < 60 ∧ t.minute < 1440 ∧ t.day < 65536 ∧ 10 ≤ t.period ∧ t.period ≤ 3600 ∧
  t.elapsed ≤ 3600 ∧ (t.epochEndOwed = false → t.elapsed < 3600) ∧ t.interval ≤ 16 ∧
  (t.interval = 0 → t.postCount = 0) ∧ (t.interval ≠ 0 → t.postCount < t.interval)

theorem intakeLaw_iff (s : State) : IntakeLaw s ↔ s.intake.lawful := Iff.rfl

theorem linkLaw_iff (s : State) : LinkLaw s ↔ s.link.lawful := Iff.rfl

theorem timeLaw_iff (s : State) : TimeLaw s ↔ s.time.lawful := Iff.rfl

theorem sweepLaw_iff (s : State) :
    SweepLaw s ↔ (s.intake.state = .stopped → s.sweep.running = false) ∧ s.sweep.lawful := Iff.rfl

/-! ## What a step does -/

/-- From `s` to `t` the Intake Unit changes as `R` says, and the laws of the other blocks are kept. -/
structure Moves (R : Intake → Intake → Prop) (s t : State) : Prop where
  intake : R s.intake t.intake
  link : LinkLaw s → LinkLaw t
  notices : NoticeLaw s → NoticeLaw t
  sweep : SweepLaw s → SweepLaw t
  time : TimeLaw s → TimeLaw t
  settings : SettingLaw s → SettingLaw t

/-- The queue, its counts and the window stand, and a frame is in flight after as before. -/
def Intake.sameFrames (x y : Intake) : Prop :=
  y.queue = x.queue ∧ y.accepted = x.accepted ∧ y.taken = x.taken ∧ y.window = x.window ∧
  y.inFlight.isSome = x.inFlight.isSome

/-- No frame comes, goes or is taken, and every law is kept. -/
abbrev Steady (s t : State) : Prop := Moves Intake.sameFrames s t

/-- Every law is kept. -/
abbrev LawsKept (s t : State) : Prop := Moves (fun x y => x.lawful → y.lawful) s t

theorem Intake.sameFrames_refl (x : Intake) : x.sameFrames x := ⟨rfl, rfl, rfl, rfl, rfl⟩

theorem Intake.sameFrames_trans {x y z : Intake} (h : x.sameFrames y) (h' : y.sameFrames z) : x.sameFrames z := by
  obtain ⟨queue, accepted, taken, window, inFlight⟩ := h
  obtain ⟨queue', accepted', taken', window', inFlight'⟩ := h'
  exact ⟨queue'.trans queue, accepted'.trans accepted, taken'.trans taken, window'.trans window,
    inFlight'.trans inFlight⟩

theorem Intake.lawful_sameFrames {x y : Intake} (h : x.sameFrames y) (hx : x.lawful) : y.lawful := by
  obtain ⟨queue, accepted, taken, window, inFlight⟩ := h
  unfold lawful
  rw [queue, accepted, taken, window, inFlight]
  exact hx

section Rules

variable {R R' R'' : Intake → Intake → Prop} {s t u : State}

theorem Moves.trans (h : Moves R s t) (h' : Moves R' t u) (both : ∀ x y z, R x y → R' y z → R'' x z) :
    Moves R'' s u :=
  ⟨both _ _ _ h.intake h'.intake, fun l => h'.link (h.link l), fun l => h'.notices (h.notices l),
    fun l => h'.sweep (h.sweep l), fun l => h'.time (h.time l), fun l => h'.settings (h.settings l)⟩

theorem Moves.mono (h : Moves R s t) (weaker : R s.intake t.intake → R' s.intake t.intake) : Moves R' s t :=
  { h with intake := weaker h.intake }

theorem Steady.trans (h : Steady s t) (h' : Steady t u) : Steady s u :=
  Moves.trans h h' fun _ _ _ => Intake.sameFrames_trans

theorem Steady.laws (h : Steady s t) : LawsKept s t := h.mono Intake.lawful_sameFrames

theorem LawsKept.trans (h : LawsKept s t) (h' : LawsKept t u) : LawsKept s u :=
  Moves.trans h h' fun _ _ _ first second hx => second (first hx)

/-- `t` has the Intake Unit, the link, the statuses, the sweep, the clocks and the settings of `s`. -/
def sameBlocks (s t : State) : Prop :=
  t.intake = s.intake ∧ t.link = s.link ∧ t.notices = s.notices ∧ t.sweep = s.sweep ∧ t.time = s.time ∧
  t.drawTimeout = s.drawTimeout ∧ t.profiles = s.profiles

theorem Steady.of_blocks (h : sameBlocks s t) : Steady s t := by
  obtain ⟨intake, link, notices, sweep, time, drawTimeout, profiles⟩ := h
  constructor
  · exact intake ▸ Intake.sameFrames_refl _
  · unfold LinkLaw; rw [link]; exact id
  · unfold NoticeLaw; rw [notices]; exact id
  · unfold SweepLaw; rw [intake, sweep]; exact id
  · unfold TimeLaw; rw [time]; exact id
  · unfold SettingLaw; rw [intake, drawTimeout, profiles]; exact id

theorem Steady.refl (s : State) : Steady s s := .of_blocks ⟨rfl, rfl, rfl, rfl, rfl, rfl, rfl⟩

/-! ## One rule per block written -/

theorem setLink_steady {l : Link} (h : s.link.lawful → l.lawful) : Steady s (s.setLink l) :=
  { Steady.refl s with link := h }

theorem setNotices_steady {n : Notices} (h : s.notices.lawful → n.lawful) : Steady s (s.setNotices n) :=
  { Steady.refl s with notices := fun l => (noticeLaw_iff _).mpr (h ((noticeLaw_iff _).mp l)) }

theorem setSweep_steady {w : Sweep} (h : SweepLaw s → SweepLaw (s.setSweep w)) : Steady s (s.setSweep w) :=
  { Steady.refl s with sweep := h }

theorem setTime_steady {t : TimeBase} (h : s.time.lawful → t.lawful) : Steady s (s.setTime t) :=
  { Steady.refl s with time := h }

/-- The Intake Unit is written, and intake does not enter STOPPED by it. -/
theorem setIntake_moves {x : Intake} (h : R s.intake x) (state : x.state = .stopped → s.intake.state = .stopped)
    (hold : x.dedupHold = s.intake.dedupHold) : Moves R s (s.setIntake x) where
  intake := h
  link := id
  notices := id
  sweep l := ⟨fun stopped => l.1 (state stopped), l.2⟩
  time := id
  settings l := by
    unfold SettingLaw at l ⊢
    rw [show (s.setIntake x).intake.dedupHold = _ from hold]
    exact l

/-- A request is answered while the place for its answer is reserved (R178). -/
theorem answer_steady (code : Byte) (tag : Word16) (q : ResultCode) (d : List Byte) (h : s.link.reserved = true) :
    Steady s (answer s code tag q d) :=
  setLink_steady fun l => by
    unfold Link.lawful at l ⊢
    rw [h, if_pos rfl] at l
    simpa [Link.reserved] using l

theorem reply_steady (r : Request) (q : ResultCode) (d : List Byte) (h : s.link.reserved = true) :
    Steady s (reply s r q d) :=
  answer_steady _ _ _ _ h

theorem Steady.reply (h : Steady s t) (r : Request) (q : ResultCode) (d : List Byte) (link : t.link = s.link)
    (reserved : s.link.reserved = true) : Steady s (reply t r q d) :=
  h.trans (reply_steady r q d (link ▸ reserved))

end Rules

/-! ## Conditions and holding (R11, chapter 4) -/

section Conditions

variable (s : State)

theorem raiseRound_steady (q : Fin 64) (w : RoundStatus) : Steady s (s.raiseRound q w) :=
  setNotices_steady (Notices.lawful_raiseRound q w)

theorem noteKind_steady (k : Kind) (x : Option Subject) (c : Word32) : Steady s (noteKind s k x c) :=
  setNotices_steady (Notices.lawful_note k x c)

theorem countKind_steady (k : Kind) : Steady s (countKind s k) := .of_blocks (by simp [sameBlocks])

theorem dispose_steady (k : Kind) (x : Subject) (a : Action) : Steady s (dispose s k x a) := by
  have counted := countKind_steady s k
  cases a with
  | record | relay => exact counted
  | note | hold => exact counted.trans (noteKind_steady ..)
  | defer => exact counted.trans (show Steady _ (deferKind _ k x) from .of_blocks (by simp [sameBlocks]))

theorem holdNow_steady (c : Cause) : Steady s (holdNow s c) :=
  Steady.trans (setIntake_moves (x := { s.intake with state := .held c }) (Intake.sameFrames_refl _) nofun rfl)
    (setNotices_steady (n := s.notices.raiseHeld c) (Notices.lawful_raiseHeld c))

theorem holdAtFrameEnd_steady (k : Kind) : Steady s (holdAtFrameEnd s k) :=
  setIntake_moves (Intake.sameFrames_refl _) id rfl

theorem holdForT_steady (k : Kind) : Steady s (holdForT s k) := by
  unfold holdForT
  split
  · exact .refl s
  · split
    · exact holdAtFrameEnd_steady ..
    · exact holdNow_steady ..

theorem raiseT_steady (k : Kind) (x : Subject) : Steady s (raiseT s k x) := by
  have disposed := dispose_steady s k x (s.cond.action k)
  unfold raiseT
  dsimp only
  split
  · exact disposed.trans (holdForT_steady ..)
  · exact disposed

theorem clearDeferred_steady (k : Kind) : Steady s (clearDeferred s k) :=
  .of_blocks (by simp [sameBlocks, clearDeferred])

theorem reexamine_steady (k : Kind) : Steady s (reexamine s k) := by
  have noted := noteKind_steady s k (Vec.get s.cond.deferred k.idx).subject (Vec.get s.cond.deferred k.idx).count
  unfold reexamine
  dsimp only
  split
  · exact .refl s
  · split
    · exact clearDeferred_steady ..
    · exact clearDeferred_steady ..
    · exact noted.trans (clearDeferred_steady ..)
    · exact (noted.trans (clearDeferred_steady ..)).trans (holdForT_steady ..)
    · exact .refl s

end Conditions

/-! ## A frame's conditions (R64) -/

theorem disposeOfFrame_steady (acc : State × Bool) (c : Kind × Subject) : Steady acc.1 (disposeOfFrame acc c).1 := by
  have disposed := dispose_steady acc.1 c.1 c.2 (acc.1.cond.action c.1)
  unfold disposeOfFrame
  dsimp only
  split
  · exact disposed.trans (holdAtFrameEnd_steady ..)
  · exact disposed

theorem disposeAll_steady (l : List (Kind × Subject)) (acc : State × Bool) :
    Steady acc.1 (l.foldl disposeOfFrame acc).1 := by
  induction l generalizing acc with
  | nil => exact .refl _
  | cons c l ih => exact (disposeOfFrame_steady acc c).trans (ih _)

/-- A relay enters only where it leaves room for the reserved answer (R180). -/
theorem offerRelay_steady (s : State) (f : LaneFrame) : Steady s (offerRelay s f) := by
  unfold offerRelay
  split
  · rename_i room
    refine setLink_steady fun ⟨_, downlink⟩ => ⟨?_, downlink⟩
    simp only [Link.freePlaces, Config.relayNeeds, Config.uplinkCapacity, List.length_append,
      List.length_singleton] at room ⊢
    change _ + 1 + (if s.link.reserved then 1 else 0) ≤ 64
    omega
  · exact setLink_steady id

theorem disposeFrame_steady (s : State) (f : LaneFrame) (l : List (Kind × Subject)) :
    Steady s (disposeFrame s f l) := by
  have disposed := disposeAll_steady l (s, false)
  unfold disposeFrame
  dsimp only
  split
  · exact disposed.trans (offerRelay_steady ..)
  · exact disposed

/-! ## A failed check code (R24, R75) -/

section Sheets

variable (s : State)

theorem Sweep.lawful_ended {w v : Sweep} (cursor : v.cursor = w.cursor) (idle : v.running = false) (h : w.lawful) :
    v.lawful :=
  ⟨cursor ▸ h.1, fun running => absurd running (by simp [idle])⟩

theorem stop_steady (i : Nat) : Steady s (stop s i) where
  intake := by rw [stop_intake]; exact Intake.sameFrames_refl _
  link := by unfold LinkLaw; rw [show (stop s i).link = s.link by simp]; exact id
  notices := by
    rw [noticeLaw_iff, noticeLaw_iff, stop_notices]
    exact Notices.lawful_raiseStopped i
  sweep l := by
    rw [sweepLaw_iff, stop_sweep]
    exact ⟨fun _ => rfl, Sweep.lawful_ended (w := s.sweep) rfl rfl l.2⟩
  time := by unfold TimeLaw; rw [show (stop s i).time = s.time by simp]; exact id
  settings := by
    unfold SettingLaw
    rw [stop_intake, show (stop s i).drawTimeout = s.drawTimeout by simp,
      show (stop s i).profiles = s.profiles by simp]
    exact id

theorem detach_steady (i : Nat) (m : Mark) : Steady s (detach s i m) := .of_blocks (by simp [sameBlocks])

theorem setTable_steady (t : BinTable) : Steady s (s.setTable t) := .of_blocks (by simp [sameBlocks])

theorem setRound_steady (q : Fin 64) (x : Round) : Steady s (s.setRound q x) := .of_blocks (by simp [sameBlocks])

theorem storeError_steady (i : Nat) : Steady s (storeError s i) :=
  ((setTable_steady ..).trans (stop_steady ..)).trans (detach_steady ..)

theorem writeRecord_steady (i : Nat) (r : BinRecord) : Steady s (s.writeRecord i r) := setTable_steady ..

theorem claimUnplaced_steady (i : Nat) : Steady s (claimUnplaced s i).1 := by
  unfold claimUnplaced
  split
  · split
    · exact storeError_steady ..
    · exact writeRecord_steady ..
  · exact .refl s

/-! ## Place, cut-off, release (chapters 6 to 8) -/

theorem place_steady (i : Nat) (r : BinRecord) (c : EntryClass) : Steady s (place s i r c).1 := by
  rcases place_cases s i r c with ⟨h, -⟩ | ⟨u, w, h, -⟩ | ⟨u, l, h, -⟩ | ⟨u, l, h, -⟩ | ⟨h, -⟩ |
    ⟨q, -, -, ⟨-, -, h⟩ | ⟨front, last, -, -, -, h⟩⟩ <;> rw [h]
  case inr.inr.inr.inr.inr.inr => exact (setRound_steady ..).trans (claimUnplaced_steady ..)
  all_goals exact .of_blocks (by simp [sameBlocks])

theorem openSide_steady (p : Fin 4) (q : Fin 64) : Steady s (openSide s p q) := by
  unfold openSide
  dsimp only
  split
  · exact Steady.trans (.of_blocks (by simp [sameBlocks])) (raiseRound_steady ..)
  · exact .of_blocks (by simp [sameBlocks])

theorem sealRound_steady (q : Fin 64) : Steady s (sealRound s q).1 := by
  have ready := (setRound_steady s q { s.round q with
    fillSide := (s.round q).fillSide.flip, fill := [], otherState := .sealed, other := (s.round q).fill,
    lastCutoff := some s.time.epoch }).trans (raiseRound_steady _ q .ready)
  unfold sealRound
  dsimp only
  split
  · exact ready.trans (openSide_steady ..)
  · exact ready

theorem cutoffFree_steady (q : Fin 64) : Steady s (cutoffFree s q).1 := by
  unfold cutoffFree
  split
  · exact .of_blocks (by simp [sameBlocks])
  · exact sealRound_steady ..

theorem cutoff_steady (q : Fin 64) : Steady s (cutoff s q).1 := by
  unfold cutoff
  split
  · exact cutoffFree_steady ..
  · exact ((setRound_steady ..).trans (raiseRound_steady ..)).trans (raiseT_steady ..)

theorem takeCutoff_steady (q : Fin 64) : Steady s (takeCutoff s q) := by
  unfold takeCutoff
  split
  · exact (setTime_steady (t := { s.time with cutoffsOwed := s.time.cutoffsOwed.erase q }) id).trans (cutoff_steady ..)
  · exact .refl s

theorem carryOne_steady (q : Fin 64) (acc : State × Figures) (e : Entry) : Steady acc.1 (carryOne q acc e).1 := by
  have freed : Steady acc.1 (acc.1.setFree (acc.1.free + 1)) := .of_blocks (by simp [sameBlocks])
  have claimed := freed.trans (claimUnplaced_steady _ e.slot)
  have dropped : Steady acc.1 (if (claimUnplaced (acc.1.setFree (acc.1.free + 1)) e.slot).2 = true then
      raiseT (claimUnplaced (acc.1.setFree (acc.1.free + 1)) e.slot).1 .placeFail (.bin e.binId)
      else (claimUnplaced (acc.1.setFree (acc.1.free + 1)) e.slot).1) := by
    split
    · exact claimed.trans (raiseT_steady ..)
    · exact claimed
  unfold carryOne
  dsimp only
  split
  · exact setRound_steady ..
  · split
    · split
      · exact Steady.trans (.of_blocks (by simp [sameBlocks])) (claimUnplaced_steady ..)
      · exact dropped
    · exact dropped

theorem carryAll_steady (q : Fin 64) (l : List Entry) (acc : State × Figures) :
    Steady acc.1 (l.foldl (carryOne q) acc).1 := by
  induction l generalizing acc with
  | nil => exact .refl _
  | cons e l ih => exact (carryOne_steady q acc e).trans (ih _)

theorem handBack_steady (p : Fin 4) (q : Fin 64) : Steady s (handBack s p q).1 :=
  Steady.trans (.of_blocks (by simp [sameBlocks])) (carryAll_steady ..)

theorem completeCutoff_steady (q : Fin 64) : Steady s (completeCutoff s q).1 := by
  unfold completeCutoff
  split
  · exact (setRound_steady ..).trans (cutoffFree_steady ..)
  · exact .refl s

theorem releaseSide_steady (p : Fin 4) (q : Fin 64) : Steady s (releaseSide s p q).1 :=
  (handBack_steady s p q).trans (completeCutoff_steady ..)

theorem takeExpiry_steady (p : Fin 4) : Steady s (takeExpiry p s) := by
  unfold takeExpiry
  split
  · split
    · exact Steady.trans (.of_blocks (by simp [sameBlocks])) (raiseT_steady ..)
    · exact .refl s
  · exact .refl s

theorem takeSheetEvent_steady (e : SheetEvent) : Steady s (takeSheetEvent s e) := by
  cases e with
  | cutoff n =>
    simp only [takeSheetEvent]
    split
    · exact takeCutoff_steady ..
    · exact .refl s
  | expiry n =>
    simp only [takeSheetEvent]
    split
    · exact takeExpiry_steady ..
    · exact .refl s

theorem takeSheetEvents_steady (l : List SheetEvent) : Steady s (l.foldl takeSheetEvent s) := by
  induction l generalizing s with
  | nil => exact .refl s
  | cons e l ih => exact (takeSheetEvent_steady s e).trans (ih _)

end Sheets

end Sys2Proof.Machine
end

section
/-! PROOFS. The laws of the blocks, continued: the requests, each answered while its place is reserved. -/

namespace Sys2Proof.Machine

theorem reserved_of_taken {s : State} {r : Request} (taken : s.link.handler = .taken r) : s.link.reserved = true := by
  rw [Link.reserved, taken]

/-! ## The work of the requests, without the answer -/

section Works

variable {s : State}

theorem bindPort_steady (p : Fin 4) (q : Fin 64) : Steady s (bindPort s p q) := by
  unfold bindPort
  dsimp only
  split
  · exact (setRound_steady ..).trans (openSide_steady ..)
  · exact .of_blocks (by simp [sameBlocks])

theorem moveCursor_steady (p : Fin 4) (q : Fin 64) (c : Nat) : Steady s (moveCursor s p q c) := by
  unfold moveCursor
  split
  · exact Steady.trans (.of_blocks (by simp [sameBlocks])) (raiseRound_steady ..)
  · exact .of_blocks (by simp [sameBlocks])

theorem rewindPort_steady (p : Fin 4) (q : Fin 64) : Steady s (rewindPort s p q) := .of_blocks (by simp [sameBlocks])

theorem placeMoved_steady (i : Nat) (x : BinRecord) : Steady s (placeMoved s i x).1 := by
  unfold placeMoved
  split
  · exact place_steady ..
  · exact .refl s

theorem updateBin_steady (i : Nat) (x : BinRecord) (o : BinPut) (between : List SheetEvent) :
    Steady s (updateBin s i x o between).1 := by
  unfold updateBin
  split
  · exact .refl s
  · exact ((detach_steady ..).trans (takeSheetEvents_steady ..)).trans (placeMoved_steady _ _)

theorem dropSlot_steady (i : Nat) : Steady s (dropSlot s i) :=
  ((detach_steady s i .withdrawn).trans (setTable_steady ..)).trans
    (setIntake_moves ⟨rfl, rfl, rfl, rfl, Option.isSome_map⟩ id rfl)

theorem writeRow_steady (k : Kind) (row : Row) : Steady s (writeRow s k row) := by
  unfold writeRow
  split
  · exact .refl s
  · exact Steady.trans (.of_blocks (by simp [sameBlocks])) (reexamine_steady ..)

theorem reexamineAll_steady (l : List Kind) : ∀ s : State, Steady s (l.foldl reexamine s) := by
  induction l with
  | nil => exact .refl
  | cons k l ih => exact fun s => (reexamine_steady s k).trans (ih _)

theorem zeroCounters_steady (s : State) : Steady s (zeroCounters s) :=
  { Steady.of_blocks (s := s) (t := s.setEmptyCutoffs 0) (by simp [sameBlocks]) with link := id, sweep := id }

theorem startSweep_steady (running : s.isStopped = false) : Steady s (startSweep s) :=
  setSweep_steady fun _ => ⟨fun stopped => absurd stopped (of_decide_eq_false running), le_refl 8191, fun _ =>
    ⟨rfl, rfl, by simp⟩⟩

theorem endSweep_steady (why : EndReason) : Steady s (endSweep s why) := by
  unfold endSweep
  split
  · exact setSweep_steady fun l => ⟨fun _ => rfl, Sweep.lawful_ended (w := s.sweep) rfl rfl l.2⟩
  · exact .refl s

end Works

theorem profileOperands_inRange {n raise clear overflow maxStep blank check events : Byte} {e f silence : Nat}
    {i : Fin 16} {p : Profile}
    (h : profileOperands n raise clear overflow maxStep blank check events e f silence = some (i, p)) :
    p.inRange = true := by
  unfold profileOperands at h
  split at h
  · dsimp only at h
    split at h
    · rename_i inRange
      obtain ⟨-, rfl⟩ := Prod.mk.inj (Option.some.inj h)
      exact inRange
    · cases h
  · cases h

section Requests

variable {s : State} (r : Request) (reserved : s.link.reserved = true)
include reserved

/-! ## Ports and rounds -/

theorem bindRequest_steady : Steady s (bindRequest r s) := by
  unfold bindRequest
  split
  · split
    · exact reply_steady _ _ _ reserved
    · split
      · split
        · exact reply_steady _ _ _ reserved
        · split
          · exact reply_steady _ _ _ reserved
          · exact (bindPort_steady _ _).reply _ _ _ (by simp) reserved
      · exact reply_steady _ _ _ reserved
  · exact reply_steady _ _ _ reserved

theorem unbindRequest_steady : Steady s (unbindRequest r s) := by
  unfold unbindRequest
  split
  · split
    · exact Steady.reply (.of_blocks (by simp [sameBlocks])) _ _ _ (by simp) reserved
    · exact reply_steady _ _ _ reserved
  · exact reply_steady _ _ _ reserved

theorem drawEntries_steady (p : Fin 4) (q : Fin 64) (n : Nat) : Steady s (drawEntries s r p q n) := by
  unfold drawEntries
  dsimp only
  split
  · exact (storeError_steady ..).reply _ _ _ (by simp) reserved
  · exact (moveCursor_steady _ _ _).reply _ _ _ (by simp) reserved

theorem drawRequest_steady : Steady s (drawRequest r s) := by
  unfold drawRequest
  split
  · split
    · exact reply_steady _ _ _ reserved
    · split
      · exact reply_steady _ _ _ reserved
      · split
        · exact reply_steady _ _ _ reserved
        · split
          · exact reply_steady _ _ _ reserved
          · exact reply_steady _ _ _ reserved
          · exact Steady.reply (.of_blocks (by simp [sameBlocks])) _ _ _ (by simp) reserved
          · exact drawEntries_steady r reserved _ _ _
  · exact reply_steady _ _ _ reserved

theorem rewindRequest_steady : Steady s (rewindRequest r s) := by
  unfold rewindRequest
  split
  · split
    · exact reply_steady _ _ _ reserved
    · split
      · exact reply_steady _ _ _ reserved
      · split
        · exact reply_steady _ _ _ reserved
        · exact reply_steady _ _ _ reserved
        · exact (rewindPort_steady _ _).reply _ _ _ (by simp) reserved
        · exact (rewindPort_steady _ _).reply _ _ _ (by simp) reserved
  · exact reply_steady _ _ _ reserved

theorem releaseRequest_steady : Steady s (releaseRequest r s) := by
  unfold releaseRequest
  split
  · split
    · exact reply_steady _ _ _ reserved
    · split
      · exact reply_steady _ _ _ reserved
      · split
        · exact reply_steady _ _ _ reserved
        · exact reply_steady _ _ _ reserved
        · exact (releaseSide_steady ..).reply _ _ _ (by simp) reserved
        · exact (releaseSide_steady ..).reply _ _ _ (by simp) reserved
  · exact reply_steady _ _ _ reserved

theorem portGetRequest_steady : Steady s (portGetRequest r s) := by
  unfold portGetRequest
  repeat' split
  all_goals exact reply_steady _ _ _ reserved

theorem roundPutRequest_steady : Steady s (roundPutRequest r s) := by
  unfold roundPutRequest
  split
  · split
    · exact reply_steady _ _ _ reserved
    · split
      · split
        · exact reply_steady _ _ _ reserved
        · exact (setRound_steady ..).reply _ _ _ (by simp) reserved
      · exact reply_steady _ _ _ reserved
  · exact reply_steady _ _ _ reserved

theorem roundGetRequest_steady : Steady s (roundGetRequest r s) := by
  unfold roundGetRequest
  repeat' split
  all_goals exact reply_steady _ _ _ reserved

theorem cutoffNowRequest_steady : Steady s (cutoffNowRequest r s) := by
  unfold cutoffNowRequest
  split
  · split
    · exact reply_steady _ _ _ reserved
    · split
      · exact (cutoff_steady ..).reply _ _ _ (by simp) reserved
      · exact reply_steady _ _ _ reserved
  · exact reply_steady _ _ _ reserved

/-! ## The Bin Table -/

theorem updateRequest_steady (i : Nat) (x : BinRecord) (o : BinPut) (between : List SheetEvent) :
    Steady s (updateRequest s r i x o between) := by
  have updated := updateBin_steady (s := s) i x o between
  unfold updateRequest
  dsimp only
  split
  · exact ((takeSheetEvents_steady ..).trans (storeError_steady ..)).reply _ _ _ (by simp) reserved
  · have written := updated.trans (writeRecord_steady _ i (updateBin s i x o between).2.1)
    refine Steady.reply ?_ _ _ _ ?_ reserved
    · split
      · exact written.trans (raiseT_steady ..)
      · exact written
    · split <;> simp

theorem putBin_steady (o : BinPut) (between : List SheetEvent) : Steady s (putBin s r o between) := by
  unfold putBin
  split
  · unfold insertBin
    split
    · exact (writeRecord_steady ..).reply _ _ _ (by simp) reserved
    · exact reply_steady _ _ _ reserved
  · exact (storeError_steady ..).reply _ _ _ (by simp) reserved
  · split
    · exact ((detach_steady ..).trans (writeRecord_steady ..)).reply _ _ _ (by simp) reserved
    · exact updateRequest_steady r reserved _ _ _ _

theorem binPutRequest_steady (between : List SheetEvent) : Steady s (binPutRequest between r s) := by
  unfold binPutRequest
  split
  · split
    · exact reply_steady _ _ _ reserved
    · split
      · exact putBin_steady r reserved _ _
      · exact reply_steady _ _ _ reserved
  · exact reply_steady _ _ _ reserved

theorem binGetRequest_steady : Steady s (binGetRequest r s) := by
  unfold binGetRequest
  split
  · split
    · unfold getBin
      split
      · exact reply_steady _ _ _ reserved
      · exact (storeError_steady ..).reply _ _ _ (by simp) reserved
      · exact reply_steady _ _ _ reserved
    · exact reply_steady _ _ _ reserved
  · exact reply_steady _ _ _ reserved

theorem binDropRequest_steady : Steady s (binDropRequest r s) := by
  unfold binDropRequest
  split
  · split
    · exact reply_steady _ _ _ reserved
    · split
      · unfold dropBin
        split
        · exact reply_steady _ _ _ reserved
        · exact (storeError_steady ..).reply _ _ _ (by simp) reserved
        · exact (dropSlot_steady ..).reply _ _ _ (by simp) reserved
      · exact reply_steady _ _ _ reserved
  · exact reply_steady _ _ _ reserved

theorem tableReadRequest_steady : Steady s (tableReadRequest r s) := by
  unfold tableReadRequest
  split
  · split
    · exact reply_steady _ _ _ reserved
    · split
      · exact (storeError_steady ..).reply _ _ _ (by simp) reserved
      · exact reply_steady _ _ _ reserved
  · exact reply_steady _ _ _ reserved

/-! ## Intake, without a frame taken -/

theorem holdRequest_steady : Steady s (holdRequest r s) := by
  unfold holdRequest
  split
  · split
    · exact reply_steady _ _ _ reserved
    · exact reply_steady _ _ _ reserved
    · split
      · refine setLink_steady fun l => ?_
        unfold Link.lawful at l ⊢
        rwa [reserved] at l
      · exact (holdNow_steady ..).reply _ _ _ (by simp) reserved
  · exact reply_steady _ _ _ reserved

theorem resumeRequest_steady : Steady s (resumeRequest r s) := by
  have resumed : Steady s ((s.setIntake { s.intake with state := .run }).setNotices s.notices.clearHeld) :=
    Steady.trans (setIntake_moves (x := { s.intake with state := .run }) (Intake.sameFrames_refl _) nofun rfl)
      (setNotices_steady (n := s.notices.clearHeld) Notices.lawful_clearHeld)
  unfold resumeRequest
  split
  · split
    · exact reply_steady _ _ _ reserved
    · exact reply_steady _ _ _ reserved
    · exact resumed.reply _ _ _ (by simp) reserved
  · exact reply_steady _ _ _ reserved

theorem windowReadRequest_steady : Steady s (windowReadRequest r s) := by
  unfold windowReadRequest
  repeat' split
  all_goals exact reply_steady _ _ _ reserved

/-! ## Conditions -/

theorem rulePutRequest_steady : Steady s (rulePutRequest r s) := by
  unfold rulePutRequest
  split
  · split
    · exact (writeRow_steady _ _).reply _ _ _ (by simp) reserved
    · exact reply_steady _ _ _ reserved
  · exact reply_steady _ _ _ reserved

theorem ruleGetRequest_steady : Steady s (ruleGetRequest r s) := by
  unfold ruleGetRequest
  repeat' split
  all_goals exact reply_steady _ _ _ reserved

theorem maskPutRequest_steady : Steady s (maskPutRequest r s) := by
  unfold maskPutRequest
  split
  · split
    · refine Steady.reply (Steady.trans (.of_blocks ?_) (reexamineAll_steady ..)) _ _ _ (by simp) reserved
      simp [sameBlocks]
    · exact reply_steady _ _ _ reserved
  · exact reply_steady _ _ _ reserved

theorem conditionReadRequest_steady : Steady s (conditionReadRequest r s) := by
  unfold conditionReadRequest
  split
  · split
    · exact Steady.reply (.of_blocks (by simp [sameBlocks])) _ _ _ (by simp) reserved
    · exact reply_steady _ _ _ reserved
    · exact reply_steady _ _ _ reserved
  · exact reply_steady _ _ _ reserved

/-! ## STATUS, COUNTERS, the notices -/

theorem countersRequest_steady : Steady s (countersRequest r s) := by
  unfold countersRequest
  split
  · split
    · exact (zeroCounters_steady s).trans (reply_steady _ _ _ reserved)
    · exact reply_steady _ _ _ reserved
    · exact reply_steady _ _ _ reserved
  · exact reply_steady _ _ _ reserved

theorem settingGetRequest_steady : Steady s (settingGetRequest r s) := by
  unfold settingGetRequest
  repeat' split
  all_goals exact reply_steady _ _ _ reserved

theorem unknownItemRequest_steady : Steady s (unknownItemRequest r s) := by
  unfold unknownItemRequest
  split
  · split
    · exact reply_steady _ _ _ reserved
    · exact .refl s
  · exact .refl s

theorem noticeEnableRequest_steady : Steady s (noticeEnableRequest r s) := by
  unfold noticeEnableRequest
  split
  · split
    · rename_i l named
      exact (setNotices_steady (Notices.lawful_writeEnables l _ (enablesNamed_notCond named))).reply _ _ _ rfl reserved
    · exact reply_steady _ _ _ reserved
  · exact reply_steady _ _ _ reserved

theorem noticeClearRequest_steady : Steady s (noticeClearRequest r s) := by
  unfold noticeClearRequest
  split
  · split
    · rename_i l _
      exact (setNotices_steady (Notices.lawful_clears l _)).reply _ _ _ rfl reserved
    · exact reply_steady _ _ _ reserved
  · exact reply_steady _ _ _ reserved

/-! ## Profiles, clock, sweep -/

theorem profileGetRequest_steady : Steady s (profileGetRequest r s) := by
  unfold profileGetRequest
  repeat' split
  all_goals exact reply_steady _ _ _ reserved

theorem profilePutRequest_steady : Steady s (profilePutRequest r s) := by
  unfold profilePutRequest
  split
  · split
    · exact reply_steady _ _ _ reserved
    · split
      · rename_i i p operands
        have stored : Steady s (s.setProfiles (Vec.put s.profiles i p)) :=
          { Steady.refl s with
            settings := fun ⟨hold, hold', timeout, inRange⟩ => ⟨hold, hold', timeout, fun n => by
              rw [setProfiles_profiles, Vec.get_put]
              split
              · exact profileOperands_inRange operands
              · exact inRange n⟩ }
        exact stored.reply _ _ _ rfl reserved
      · exact reply_steady _ _ _ reserved
  · exact reply_steady _ _ _ reserved

theorem clockSetRequest_steady : Steady s (clockSetRequest r s) := by
  unfold clockSetRequest
  split
  · rename_i m0 m1 d0 d1 _
    split
    · exact reply_steady _ _ _ reserved
    · rename_i minute
      have day : num16 d0 d1 < 65536 := by
        unfold num16
        have := d0.isLt
        have := d1.isLt
        omega
      have set : Steady s (s.setTime { s.time with second := 0, minute := num16 m0 m1, day := num16 d0 d1 }) :=
        setTime_steady fun ⟨_, _, _, rest⟩ => ⟨Nat.zero_lt_succ _, Nat.lt_succ_of_le (Nat.not_lt.mp minute), day, rest⟩
      exact set.reply _ _ _ rfl reserved
  · exact reply_steady _ _ _ reserved

theorem sweepReportRequest_steady : Steady s (sweepReportRequest r s) := by
  unfold sweepReportRequest
  split
  all_goals exact reply_steady _ _ _ reserved

theorem sweepRequest_steady : Steady s (sweepRequest r s) := by
  unfold sweepRequest
  split
  · split
    · exact reply_steady _ _ _ reserved
    · rename_i running
      split
      · exact reply_steady _ _ _ reserved
      · exact (startSweep_steady (by simpa using running)).reply _ _ _ rfl reserved
  · exact reply_steady _ _ _ reserved

theorem sweepAbortRequest_steady : Steady s (sweepAbortRequest r s) := by
  unfold sweepAbortRequest
  split
  · exact (endSweep_steady ..).reply _ _ _ (by simp) reserved
  · exact reply_steady _ _ _ reserved

end Requests

/-! ## The work that falls between two operations of a claim -/

theorem beginStatus_steady (s : State) : Steady s (beginStatus s) := by
  unfold beginStatus
  split
  · rename_i r taken
    have reserved := reserved_of_taken taken
    split
    · split
      · refine setLink_steady fun l => ?_
        unfold Link.lawful at l ⊢
        rwa [reserved] at l
      · exact reply_steady _ _ _ reserved
    · exact .refl s
  · exact .refl s

theorem readStatus_steady (items : List StatusItem) (s : State) : Steady s (readStatus items s) := by
  unfold readStatus
  split
  · rename_i reading
    have reserved : s.link.reserved = true := by rw [Link.reserved, reading]
    dsimp only
    split
    · exact answer_steady _ _ _ _ reserved
    · refine setLink_steady fun l => ?_
      unfold Link.lawful at l ⊢
      rwa [reserved] at l
  · exact .refl s

theorem statusWork_steady (items : List StatusItem) (s : State) : Steady s (statusWork items s) :=
  (beginStatus_steady s).trans (readStatus_steady ..)

/-- A request is taken only where a place for its answer is free (R178). -/
theorem takeRequest_steady (s : State) : Steady s (takeRequest s) := by
  unfold takeRequest
  split
  · rename_i free
    obtain ⟨idle, room⟩ := free
    split
    · rename_i r rest waiting
      have took : Steady s (s.setLink { s.link with downlink := rest, handler := .taken r }) := by
        refine setLink_steady fun l => ?_
        obtain ⟨-, downlink⟩ := l
        simp only [Link.freePlaces, Config.uplinkCapacity, Link.reserved, idle] at room
        rw [waiting, List.length_cons] at downlink
        refine ⟨?_, by dsimp only; omega⟩
        simp only [Link.reserved, if_true]
        simp only [Bool.false_eq_true, if_false] at room
        omega
      unfold takeOldest
      dsimp only
      split
      · split
        · exact took
        · exact took.trans (reply_steady _ _ _ rfl)
      · exact took
    · exact .refl s
  · exact .refl s

theorem workSheetRequest_steady (s : State) : Steady s (workSheetRequest s) := by
  unfold workSheetRequest
  split
  · rename_i r taken
    have reserved := reserved_of_taken taken
    split
    · exact bindRequest_steady r reserved
    · exact unbindRequest_steady r reserved
    · exact rewindRequest_steady r reserved
    · exact portGetRequest_steady r reserved
    · exact roundPutRequest_steady r reserved
    · exact roundGetRequest_steady r reserved
    · exact cutoffNowRequest_steady r reserved
    · exact .refl s
  · exact .refl s

theorem takeBetween_steady (s : State) (b : Between) : Steady s (takeBetween s b) := by
  cases b with
  | event e => exact takeSheetEvent_steady s e
  | requestTake => exact takeRequest_steady s
  | sheetRequest => exact workSheetRequest_steady s
  | statusRead items => exact statusWork_steady items s

theorem takeBetweens_steady (l : List Between) : ∀ s : State, Steady s (l.foldl takeBetween s) := by
  induction l with
  | nil => exact .refl
  | cons b l ih => exact fun s => (takeBetween_steady s b).trans (ih _)

end Sys2Proof.Machine
end

section
/-! PROOFS. The laws of the blocks, continued: the clocks, the settings, the link, the sweep. -/

namespace Sys2Proof.Machine

/-! ## The Time Base (R85–R93) -/

namespace TimeBase

variable {t : TimeBase}

theorem lawful_countEpochEnd (h : t.lawful) : t.countEpochEnd.lawful := by
  unfold countEpochEnd
  split
  · exact h
  · rename_i counting
    obtain ⟨second, minute, day, period, period', elapsed, notOwed, interval, -, postCount⟩ := h
    split
    · exact ⟨second, minute, day, period, period', elapsed, notOwed, interval, fun _ => rfl, fun _ =>
        Nat.pos_of_ne_zero counting⟩
    · rename_i below
      exact ⟨second, minute, day, period, period', elapsed, notOwed, interval, fun off => absurd off counting, fun _ =>
        Nat.lt_of_not_le below⟩

theorem lawful_endEpoch (h : t.lawful) : t.endEpoch.lawful := by
  unfold endEpoch
  split
  · obtain ⟨second, minute, day, period, period', -, -, rest⟩ := h
    exact lawful_countEpochEnd ⟨second, minute, day, period, period', Nat.zero_le _, fun _ => Nat.zero_lt_succ _, rest⟩
  · exact h

/-- After an epoch end is taken none is owed. -/
theorem endEpoch_settled (t : TimeBase) : t.endEpoch.epochEndOwed = false := by
  cases owed : t.epochEndOwed with
  | false => rw [endEpoch_notOwed owed, owed]
  | true =>
    unfold endEpoch countEpochEnd
    rw [if_pos owed]
    split
    · rfl
    · split <;> rfl

theorem lawful_advanceEpoch (settled : t.epochEndOwed = false) (h : t.lawful) : t.advanceEpoch.lawful := by
  obtain ⟨second, minute, day, period, period', -, notOwed, rest⟩ := h
  refine ⟨second, minute, day, period, period', notOwed settled, fun early => ?_, rest⟩
  have early : t.elapsed + 1 < t.period := Nat.lt_of_not_le (of_decide_eq_false early)
  exact Nat.lt_of_lt_of_le early period'

theorem lawful_advanceMinute (h : t.lawful) : t.advanceMinute.lawful := by
  obtain ⟨-, minute, day, rest⟩ := h
  refine ⟨Nat.zero_lt_succ _, ?_, ?_, rest⟩
  · simp only [advanceMinute]
    split <;> omega
  · simp only [advanceMinute]
    split
    · exact day
    · split <;> omega

theorem lawful_advanceClock (h : t.lawful) : t.advanceClock.lawful := by
  unfold advanceClock
  split
  · rename_i below
    exact ⟨below, h.2⟩
  · exact lawful_advanceMinute h

theorem lawful_advance (h : t.lawful) : t.advance.lawful :=
  lawful_advanceClock (lawful_advanceEpoch (endEpoch_settled t) (lawful_endEpoch h))

end TimeBase

section Events

variable (s : State)

/-- The ageing of the Duplicate Window removes entries only (R16). -/
theorem Intake.lawful_age {x : Intake} (tick : Word32) (h : x.lawful) : (x.age tick).lawful := by
  obtain ⟨queue, counts, inFlight, window, pairs⟩ := h
  exact ⟨queue, counts, inFlight, (List.length_filter_le ..).trans window,
    pairs.sublist (List.filter_sublist.map _)⟩

theorem tickAll_laws (failed : List (Nat × Word16)) : LawsKept s (tickAll failed s) := by
  have clocks := (setTime_steady (s := s) TimeBase.lawful_advance).laws
  have aged : LawsKept (s.setTime s.time.advance)
      ((s.setTime s.time.advance).setIntake (s.intake.age s.time.advance.tick)) :=
    setIntake_moves (Intake.lawful_age _) id rfl
  exact (clocks.trans aged).trans (Steady.of_blocks (by simp [sameBlocks, tickAll])).laws

theorem compareMinute_steady : Steady s (compareMinute s) := by
  unfold compareMinute
  split
  · exact setTime_steady id
  · exact .refl s

theorem takeTrigger_steady : Steady s (takeTrigger s) := by
  have taken : Steady s (s.setTime { s.time with triggersOwed := s.time.triggersOwed - 1 }) := setTime_steady id
  unfold takeTrigger
  dsimp only
  split
  · exact .refl s
  · split
    · exact taken
    · rename_i works
      split
      · exact taken.trans (setSweep_steady id)
      · refine taken.trans (startSweep_steady ?_)
        simp only [State.skipsTrigger, Bool.or_eq_true, not_or, Bool.not_eq_true] at works
        exact works.1

/-! ## The link (R175–R182) -/

theorem countBadFrame_steady : Steady s (countBadFrame s) := setLink_steady id

theorem discardFrame_steady : Steady s (discardFrame s) := setLink_steady id

theorem receiveFrame_steady (body : List Byte) (crc : Option Word16) : Steady s (receiveFrame body crc s) := by
  unfold receiveFrame
  split
  · exact .refl s
  · split
    · exact discardFrame_steady s
    · split
      · exact countBadFrame_steady s
      · split
        · unfold offerRequest
          split
          · rename_i room
            refine setLink_steady fun l => ⟨l.1, ?_⟩
            rw [List.length_append]
            exact room
          · exact setLink_steady id
        · exact countBadFrame_steady s

theorem idleTimeout_steady (incomplete : Bool) : Steady s (idleTimeout incomplete s) := by
  unfold idleTimeout
  split
  · exact setLink_steady id
  · split
    · exact countBadFrame_steady s
    · exact .refl s

theorem badFrame_steady (cause : BadCause) : Steady s (badFrame cause s) := by
  unfold badFrame
  split
  · exact .refl s
  · split
    · exact discardFrame_steady s
    · exact .refl s

theorem answerUnknown_steady : Steady s (answerUnknown s) := by
  unfold answerUnknown
  split
  · rename_i r taken
    split
    · exact reply_steady _ _ _ (reserved_of_taken taken)
    · exact .refl s
  · exact .refl s

theorem frameSent_steady : Steady s (frameSent s) := by
  unfold frameSent
  split
  · exact .refl s
  · rename_i f rest sending
    have sent : Steady s (s.setLink { s.link with
        uplink := rest, relaysSent := if f.kind = .relay then s.link.relaysSent + 1 else s.link.relaysSent }) := by
      refine setLink_steady fun l => ⟨?_, l.2⟩
      have room := l.1
      rw [sending, List.length_cons] at room
      change rest.length + (if s.link.reserved then 1 else 0) ≤ 64
      omega
    exact sent.trans (.of_blocks (by simp [sameBlocks]))

theorem buildNotice_steady : Steady s (buildNotice s) := by
  unfold buildNotice
  split
  · exact .refl s
  · rename_i i rest owed
    split
    · rename_i room
      have entered : Steady s (s.setLink { s.link with uplink := s.link.uplink ++ [noticeFrame s i] }) := by
        refine setLink_steady fun l => ⟨?_, l.2⟩
        simp only [Link.freePlaces, Config.uplinkCapacity] at room
        rw [List.length_append, List.length_singleton]
        change _ + 1 + (if s.link.reserved then 1 else 0) ≤ 64
        omega
      exact entered.trans (setNotices_steady (Notices.lawful_built owed))
    · exact .refl s

end Events

/-! ## The sweep (R161–R167) -/

section Visit

variable (s : State)

theorem claimUnplaced_cursor (i : Nat) : (claimUnplaced s i).1.sweep.cursor = s.sweep.cursor := by
  unfold claimUnplaced
  split
  · split
    · rw [storeError_sweep]
    · rfl
  · rfl

theorem place_cursor (i : Nat) (r : BinRecord) (c : EntryClass) :
    (place s i r c).1.sweep.cursor = s.sweep.cursor := by
  rcases place_cases s i r c with ⟨h, -⟩ | ⟨u, w, h, -⟩ | ⟨u, l, h, -⟩ | ⟨u, l, h, -⟩ | ⟨h, -⟩ |
    ⟨q, -, -, ⟨-, -, h⟩ | ⟨front, last, -, -, -, h⟩⟩ <;> rw [h]
  case inr.inr.inr.inr.inr.inr => exact claimUnplaced_cursor ..
  all_goals rfl

theorem afterPlace_steady (id : Word32) (o : PlaceOutcome) : Steady s (afterPlace s id o) := by
  cases o with
  | added => exact setSweep_steady fun l => l
  | failed => exact raiseT_steady ..
  | noRound | upgraded | unchanged => exact .refl s

theorem afterPlace_cursor (id : Word32) (o : PlaceOutcome) : (afterPlace s id o).sweep.cursor = s.sweep.cursor := by
  cases o with
  | failed => simp [afterPlace]
  | _ => rfl

/-- A visit of a slot keeps the laws, and the cursor stands until its end. -/
theorem makeVisitRequest_steady (i : Nat) (x : BinRecord) (request : VisitRequest) :
    Steady s (makeVisitRequest s i x request) ∧ (makeVisitRequest s i x request).sweep.cursor = s.sweep.cursor := by
  cases request with
  | place c =>
    exact ⟨((place_steady s i x c).trans (writeRecord_steady ..)).trans (afterPlace_steady ..),
      (afterPlace_cursor ..).trans (place_cursor ..)⟩
  | withdraw => exact ⟨(detach_steady ..).trans (writeRecord_steady ..), by simp [makeVisitRequest]⟩
  | nothing => exact ⟨writeRecord_steady .., rfl⟩

theorem visitRecord_steady (i : Nat) (x : BinRecord) :
    Steady s (visitRecord s i x) ∧ (visitRecord s i x).sweep.cursor = s.sweep.cursor := by
  have silenced : Steady s (silenceBin s i x) :=
    ((writeRecord_steady s i { x with silent := true }).trans
      (setSweep_steady (w := { s.sweep with silenced := s.sweep.silenced + 1 }) fun l => l)).trans (raiseT_steady ..)
  unfold visitRecord
  dsimp only
  split
  · obtain ⟨requested, cursor⟩ := makeVisitRequest_steady (silenceBin s i x) i { x with silent := true }
      (visitRequest (Vec.get s.profiles x.profile) true { x with silent := true })
    exact ⟨silenced.trans requested, cursor.trans (by simp [silenceBin])⟩
  · exact makeVisitRequest_steady ..

theorem visitSlot_steady (i : Nat) : Steady s (visitSlot s i) ∧ (visitSlot s i).sweep.cursor = s.sweep.cursor := by
  unfold visitSlot
  split
  · split
    · exact ⟨storeError_steady .., by rw [storeError_sweep]⟩
    · exact visitRecord_steady ..
  · split
    · exact ⟨(setTable_steady ..).trans (setSweep_steady fun l => l), rfl⟩
    · exact ⟨.refl s, rfl⟩
  · exact ⟨.refl s, rfl⟩
  · exact ⟨.refl s, rfl⟩

/-- One more slot visited, the cursor one lower: the visited slots are those above it. -/
theorem Sweep.lawful_visited {w : Sweep} {i : Nat} (here : w.cursor = i) (notLast : i ≠ 0) (h : w.lawful) :
    ({ w with visited := w.visited + 1, cursor := i - 1 } : Sweep).lawful := by
  obtain ⟨range, walks⟩ := h
  rw [here] at range walks
  refine ⟨(Nat.sub_le _ _).trans range, fun running => ?_⟩
  obtain ⟨goesOn, started, visited⟩ := walks running
  refine ⟨goesOn, started, ?_⟩
  show w.visited + 1 = BitVec.ofNat 32 (8191 - (i - 1))
  rw [visited, show 8191 - (i - 1) = 8191 - i + 1 by omega, BitVec.ofNat_add]
  rfl

theorem endVisit_steady {s : State} {i : Nat} (here : s.sweep.cursor = i) : Steady s (endVisit s i) := by
  unfold endVisit
  dsimp only
  split
  · have ended : Steady s (s.setSweep { s.sweep with
        visited := s.sweep.visited + 1, cursor := i - 1, running := false, endReason := some .done }) :=
      setSweep_steady fun l => ⟨fun _ => rfl, (Nat.sub_le _ _).trans (here ▸ l.2.1), nofun⟩
    exact ended.trans (setNotices_steady (n := s.notices.raise .sweepDone) Notices.lawful_raiseSweepDone)
  · rename_i notLast
    exact setSweep_steady fun l => ⟨l.1, Sweep.lawful_visited here notLast l.2⟩

theorem sweepVisit_steady : Steady s (sweepVisit s) := by
  unfold sweepVisit
  split
  · obtain ⟨visited, cursor⟩ := visitSlot_steady s s.sweep.cursor
    exact visited.trans (endVisit_steady cursor)
  · exact .refl s

end Visit

/-! ## The settings (R3, R16, R88, R91, R153) -/

section Settings

variable {s : State} (r : Request) (v : Nat) (reserved : s.link.reserved = true)
include reserved

theorem laneEnableSetting_steady : Steady s (laneEnableSetting r v s) := by
  unfold laneEnableSetting
  split
  · exact reply_steady _ _ _ reserved
  · exact Steady.reply (.of_blocks (by simp [sameBlocks])) _ _ _ rfl reserved

theorem dedupHoldSetting_steady : Steady s (dedupHoldSetting r v s) := by
  unfold dedupHoldSetting
  split
  · exact reply_steady _ _ _ reserved
  · rename_i range
    have stored : Steady s (s.setIntake { s.intake with dedupHold := v }) :=
      { Steady.refl s with
        intake := Intake.sameFrames_refl s.intake
        sweep := id
        settings := fun ⟨_, _, rest⟩ => ⟨show 1 ≤ v by omega, show v ≤ 60 by omega, rest⟩ }
    exact stored.reply _ _ _ rfl reserved

theorem epochPeriodSetting_steady : Steady s (epochPeriodSetting r v s) := by
  unfold epochPeriodSetting
  split
  · exact reply_steady _ _ _ reserved
  · rename_i range
    have stored : Steady s (s.setTime { s.time with period := max 10 v }) :=
      setTime_steady fun ⟨second, minute, day, _, _, rest⟩ =>
        ⟨second, minute, day, le_max_left .., max_le (by decide) (Nat.not_lt.mp range), rest⟩
    exact stored.reply _ _ _ rfl reserved

theorem sweepIntervalSetting_steady : Steady s (sweepIntervalSetting r v s) := by
  unfold sweepIntervalSetting
  split
  · exact reply_steady _ _ _ reserved
  · rename_i range
    have stored : Steady s (s.setTime { s.time with interval := v, postCount := 0 }) :=
      setTime_steady fun ⟨second, minute, day, period, period', elapsed, notOwed, _⟩ =>
        ⟨second, minute, day, period, period', elapsed, notOwed, Nat.not_lt.mp range, fun _ => rfl,
          fun on => Nat.pos_of_ne_zero on⟩
    exact stored.reply _ _ _ rfl reserved

theorem drawIdleLimitSetting_steady : Steady s (drawIdleLimitSetting r v s) := by
  unfold drawIdleLimitSetting
  split
  · exact reply_steady _ _ _ reserved
  · rename_i range
    have inRange : storedTimeout v = 0 ∨ 10 ≤ storedTimeout v ∧ storedTimeout v ≤ 3600 := by
      unfold storedTimeout
      split
      · exact .inl rfl
      · exact .inr ⟨le_max_left .., max_le (by decide) (Nat.not_lt.mp range)⟩
    have stored : Steady s (s.setDrawTimeout (storedTimeout v)) :=
      { Steady.refl s with settings := fun ⟨hold, hold', _, profiles⟩ => ⟨hold, hold', inRange, profiles⟩ }
    exact stored.reply _ _ _ rfl reserved

theorem timeGetRequest_steady : Steady s (timeGetRequest r s) := by
  unfold timeGetRequest
  split
  · exact (setTime_steady TimeBase.lawful_endEpoch).reply _ _ _ rfl reserved
  · exact reply_steady _ _ _ reserved

end Settings

end Sys2Proof.Machine
end

section
/-! PROOFS. The laws of the blocks, continued: frames taken, applied and ended, RESTART, and the laws themselves
(O59, O60). -/

namespace Sys2Proof.Machine

/-! ## The end of a frame (R6, R21) -/

/-- The frame at the head has left the queue and is counted as taken. -/
def Intake.frameLeft (x y : Intake) : Prop :=
  y.queue = x.queue.tail ∧ y.accepted = x.accepted ∧ y.taken = x.taken + 1 ∧ y.window = x.window ∧ y.inFlight = none

/-- One frame ends, and the laws of the other blocks are kept. -/
abbrev Ended (s t : State) : Prop := Moves Intake.frameLeft s t

section Ends

variable {s t u : State}

theorem Steady.ended (h : Steady s t) (h' : Ended t u) : Ended s u :=
  Moves.trans h h' fun x y z same left => by
    obtain ⟨queue, accepted, taken, window, -⟩ := same
    unfold Intake.frameLeft at left ⊢
    rwa [queue, accepted, taken, window] at left

theorem Moves.steady (h : Ended s t) (h' : Steady t u) : Ended s u :=
  Moves.trans h h' fun x y z left same => by
    obtain ⟨queue, accepted, taken, window, inFlight⟩ := left
    obtain ⟨queue', accepted', taken', window', inFlight'⟩ := same
    refine ⟨queue'.trans queue, accepted'.trans accepted, taken'.trans taken, window'.trans window, ?_⟩
    rw [inFlight] at inFlight'
    exact Option.not_isSome_iff_eq_none.mp (by rw [inFlight']; exact nofun)

theorem Intake.lawful_frameLeft {x y : Intake} (nonempty : x.queue ≠ []) (left : x.frameLeft y) (h : x.lawful) :
    y.lawful := by
  obtain ⟨queue, accepted, taken, window, inFlight⟩ := left
  obtain ⟨length, counts, -, rest⟩ := h
  obtain ⟨f, l, waiting⟩ := List.exists_cons_of_ne_nil nonempty
  unfold lawful
  rw [queue, accepted, taken, window, inFlight, waiting, List.tail_cons]
  rw [waiting, List.length_cons] at length counts
  refine ⟨by omega, ?_, nofun, rest⟩
  rw [BitVec.ofNat_add] at counts
  have one : x.accepted - (x.taken + 1) = x.accepted - x.taken - 1 := by ring
  rw [one, counts]
  exact add_sub_cancel_right _ _

/-- A frame of the queue ends. -/
theorem Moves.lawsOfEnd (h : Ended s t) (nonempty : s.intake.lawful → s.intake.queue ≠ []) : LawsKept s t :=
  h.mono fun left lawful => Intake.lawful_frameLeft (nonempty lawful) left lawful

theorem leaveQueue_ended (s : State) : Ended s (leaveQueue s) := setIntake_moves ⟨rfl, rfl, rfl, rfl, rfl⟩ id rfl

theorem settleHold_steady (s : State) (waiting : Option Kind) : Steady s (settleHold s waiting) := by
  have restepped : Steady s ((s.setIntake { s.intake with state := .held .step }).setNotices
      (s.notices.recauseHeld .step)) :=
    Steady.trans (setIntake_moves (x := { s.intake with state := .held .step }) (Intake.sameFrames_refl _) nofun rfl)
      (setNotices_steady (n := s.notices.recauseHeld .step) (Notices.lawful_recauseHeld .step))
  unfold settleHold
  split
  · exact .refl s
  · exact holdNow_steady ..
  · exact holdNow_steady ..
  · exact .refl s
  · exact holdNow_steady ..
  · exact restepped
  · exact .refl s

theorem answerWaiting_steady (s : State) (lane : Fin 4) (outcome : Byte) : Steady s (answerWaiting s lane outcome) := by
  unfold answerWaiting
  split
  · rename_i waiting
    have reserved : s.link.reserved = true := by rw [Link.reserved, waiting]
    split <;> exact answer_steady _ _ _ _ reserved
  · rename_i waiting
    have reserved : s.link.reserved = true := by rw [Link.reserved, waiting]
    split <;> exact answer_steady _ _ _ _ reserved
  · exact .refl s

theorem endFrame_ended (s : State) (lane : Fin 4) (outcome : Byte) : Ended s (endFrame s lane outcome) :=
  ((leaveQueue_ended s).steady (settleHold_steady ..)).steady (answerWaiting_steady ..)

/-- In STOPPED the HOLD that waited sets the HELD status, and intake is STOPPED after it as before. -/
theorem holdThenStop_steady (stopped : s.intake.state = .stopped) (waiting : Option Kind) :
    Steady s (holdThenStop s waiting) := by
  cases waiting with
  | none => exact .refl s
  | some k =>
    exact (setNotices_steady (n := s.notices.raiseHeld (.kind k)) (Notices.lawful_raiseHeld _)).trans
      (setIntake_moves (x := { s.intake with state := .stopped }) (Intake.sameFrames_refl _) (fun _ => stopped) rfl)

theorem endFrameThenStop_ended (stopped : s.intake.state = .stopped) (lane : Fin 4) (outcome : Byte) :
    Ended s (endFrameThenStop s lane outcome) :=
  ((leaveQueue_ended s).steady (holdThenStop_steady (s := leaveQueue s) stopped _)).steady (answerWaiting_steady ..)

theorem refuseFrame_ended (s : State) (f : LaneFrame) (k : Kind) (x : Subject) : Ended s (refuseFrame s f k x) :=
  (disposeFrame_steady ..).ended (endFrame_ended ..)

end Ends

/-! ## A frame applied (R39, R47) -/

section Apply

variable (s : State)

theorem makeSheetRequest_steady (i : Nat) (r : BinRecord) (request : SheetRequest) :
    Steady s (makeSheetRequest s i r request).1 := by
  cases request with
  | place c => exact place_steady ..
  | withdraw => exact detach_steady ..
  | nothing => exact .refl s

theorem applyRecord_ended (x : InFlight) (r : BinRecord) (between : List Between) :
    Ended s (applyRecord s x r between) := by
  have served : Steady s (if x.sensor.lift then detach s x.slot .served else s) := by
    split
    · exact detach_steady ..
    · exact .refl s
  have begun := served.trans (takeBetweens_steady between _)
  unfold applyRecord
  dsimp only
  generalize between.foldl takeBetween (if x.sensor.lift then detach s x.slot .served else s) = u at begun
  generalize evaluate (Vec.get s.profiles r.profile) x r = y
  have requested := makeSheetRequest_steady u x.slot y.bin y.sheetRequest
  generalize makeSheetRequest u x.slot y.bin y.sheetRequest = done at requested
  have disposed := ((begun.trans requested).trans (writeRecord_steady _ x.slot done.2.1)).trans
    (disposeFrame_steady _ x.frame (conditionsOf x y done.2.2))
  split
  · rename_i stops
    obtain ⟨stopped, -⟩ := Bool.and_eq_true_iff.mp stops
    obtain ⟨-, -, -, -, -, -, state⟩ := disposeFrame_intake (done.1.writeRecord x.slot done.2.1) x.frame
      (conditionsOf x y done.2.2)
    exact disposed.ended (endFrameThenStop_ended (state.trans (of_decide_eq_true stopped)) ..)
  · exact disposed.ended (endFrame_ended ..)

theorem applyInFlight_ended (x : InFlight) (between : List Between) : Ended s (applyInFlight s x between) := by
  unfold applyInFlight
  split
  · split
    · exact (storeError_steady ..).ended (endFrame_ended ..)
    · split
      · exact refuseFrame_ended ..
      · exact applyRecord_ended ..
  · split
    · exact refuseFrame_ended ..
    · exact endFrame_ended ..

/-- The frame in flight stands at the head of the queue, so its end leaves a lawful queue. -/
theorem applyClaim_laws (between : List Between) : LawsKept s (applyClaim between s) := by
  unfold applyClaim
  split
  · rename_i x taken
    exact (applyInFlight_ended s x between).lawsOfEnd fun lawful => lawful.2.2.1 (by rw [taken]; rfl)
  · exact (Steady.refl s).laws

end Apply

/-! ## A frame offered and taken (R5, R6, R17) -/

section Take

variable {s : State}

theorem Intake.lawful_enqueue {x : Intake} (f : LaneFrame) (room : x.queue.length < 256) (h : x.lawful) :
    ({ x with queue := x.queue ++ [f], accepted := x.accepted + 1 } : Intake).lawful := by
  obtain ⟨-, counts, -, rest⟩ := h
  refine ⟨by rw [List.length_append]; exact room, ?_, fun _ => List.append_ne_nil_of_right_ne_nil _ nofun, rest⟩
  have one : x.accepted + 1 - x.taken = x.accepted - x.taken + 1 := by ring
  show x.accepted + 1 - x.taken = BitVec.ofNat 32 (x.queue ++ [f]).length
  rw [one, counts, List.length_append, BitVec.ofNat_add]
  rfl

theorem endLaneFrame_laws (n : Fin 4) (bytes : List Byte) : LawsKept s (endLaneFrame n bytes s) := by
  have counted : ∀ l : Lane, Steady s (s.setLane n l) := fun l => .of_blocks (by simp [sameBlocks])
  have offered : ∀ (t : State) (f : LaneFrame), LawsKept t (offerFrame t f) := by
    intro t f
    unfold offerFrame
    split
    · rename_i room
      exact setIntake_moves (Intake.lawful_enqueue f room) id rfl
    · exact (Steady.trans (.of_blocks (by simp [sameBlocks])) (raiseT_steady ..)).laws
  unfold endLaneFrame
  dsimp only
  split
  · exact (counted _).laws
  · split
    · exact (Steady.refl s).laws
    · split
      · exact (counted _).laws.trans (offered _ _)
      · exact (counted _).laws

/-- A copy counted keeps the pairs of the window (R17). -/
theorem countCopy_pairs (id : Word32) (seq : Word16) (w : List WindowEntry) :
    ((countCopy id seq w).map fun e => (e.binId, e.seq)) = w.map fun e => (e.binId, e.seq) := by
  induction w with
  | nil => rfl
  | cons e w ih =>
    unfold countCopy
    split
    · rfl
    · rw [List.map_cons, List.map_cons, ih]

theorem Intake.lawful_countCopy {x : Intake} (id : Word32) (seq : Word16) (h : x.lawful) :
    ({ x with window := countCopy id seq x.window } : Intake).lawful := by
  obtain ⟨queue, counts, inFlight, window, pairs⟩ := h
  have same := countCopy_pairs id seq x.window
  refine ⟨queue, counts, inFlight, ?_, by rw [same]; exact pairs⟩
  have length := congrArg List.length same
  rw [List.length_map, List.length_map] at length
  exact length.trans_le window

/-- A pair that is not in the window joins it; at 128 entries the oldest goes (R17). -/
theorem Intake.lawful_addToWindow {x : Intake} {e : WindowEntry}
    (new : x.window.any (WindowEntry.holds e.binId e.seq) = false) (h : x.lawful) :
    ({ x with window := addToWindow x.window e } : Intake).lawful := by
  obtain ⟨queue, counts, inFlight, window, pairs⟩ := h
  have kept : ∃ l, addToWindow x.window e = l ++ [e] ∧ l.Sublist x.window ∧ l.length < 128 := by
    unfold addToWindow
    split
    · rename_i room
      exact ⟨_, rfl, List.Sublist.refl _, room⟩
    · rename_i full
      refine ⟨_, rfl, List.tail_sublist _, ?_⟩
      rw [Config.windowCapacity] at full
      rw [List.length_tail]
      omega
  obtain ⟨l, added, sub, room⟩ := kept
  refine ⟨queue, counts, inFlight, ?_, ?_⟩
  · rw [added, List.length_append]
    exact room
  · rw [added, List.map_append]
    refine (pairs.sublist (sub.map _)).append (List.nodup_singleton _) ?_
    rw [List.map_singleton, List.disjoint_singleton]
    intro mem
    obtain ⟨e', inWindow, pair⟩ := List.mem_map.mp mem
    obtain ⟨sameId, sameSeq⟩ := Prod.mk.inj pair
    have absent := List.any_eq_false.mp new e' (sub.subset inWindow)
    exact absent (by simp [WindowEntry.holds, sameId, sameSeq])

theorem lookupClaim_laws (f : LaneFrame) (x : SensorFrame) (nonempty : s.intake.queue ≠ []) :
    LawsKept s (lookupClaim s f x) := by
  have refused : ∀ k j, LawsKept s (refuseFrame s f k j) := fun k j =>
    (refuseFrame_ended s f k j).lawsOfEnd fun _ => nonempty
  have inFlight : ∀ y, LawsKept s (s.setIntake { s.intake with inFlight := some y }) := fun y =>
    setIntake_moves (fun ⟨queue, counts, _, rest⟩ => ⟨queue, counts, fun _ => nonempty, rest⟩) id rfl
  unfold lookupClaim
  split
  · exact refused _ _
  · exact ((storeError_steady ..).ended (endFrame_ended ..)).lawsOfEnd fun _ => nonempty
  · split
    · exact refused _ _
    · split
      · exact refused _ _
      · exact inFlight _
      · exact inFlight _

theorem takeFrame_laws (f : LaneFrame) (nonempty : s.intake.queue ≠ []) : LawsKept s (takeFrame s f) := by
  unfold takeFrame
  split
  · exact (refuseFrame_ended ..).lawsOfEnd fun _ => nonempty
  · rename_i x form
    split
    · have copied : LawsKept s (s.setIntake { s.intake with window := countCopy x.binId x.seq s.intake.window }) :=
        setIntake_moves (Intake.lawful_countCopy x.binId x.seq) id rfl
      exact copied.trans ((refuseFrame_ended ..).lawsOfEnd fun _ => nonempty)
    · rename_i new
      have entered : LawsKept s (s.setIntake { s.intake with
          window := addToWindow s.intake.window ⟨x.binId, x.seq, s.time.tick, 1⟩ }) :=
        setIntake_moves (Intake.lawful_addToWindow (by simpa using new)) id rfl
      exact entered.trans (lookupClaim_laws _ _ nonempty)

theorem takeHead_laws : LawsKept s (takeHead s) := by
  unfold takeHead
  split
  · split
    · rename_i f rest waiting
      exact takeFrame_laws f (by rw [waiting]; exact nofun)
    · exact (Steady.refl s).laws
  · exact (Steady.refl s).laws

theorem stepRequest_laws (r : Request) (reserved : s.link.reserved = true) : LawsKept s (stepRequest r s) := by
  have replied : ∀ q d, LawsKept s (reply s r q d) := fun q d => (reply_steady r q d reserved).laws
  unfold stepRequest
  split
  · split
    · exact replied _ _
    · exact replied _ _
    · split
      · exact replied _ _
      · rename_i f rest waiting
        have steps : Steady s (s.setLink { s.link with handler := .stepWaiting r.tag }) :=
          setLink_steady fun l => by
            unfold Link.lawful at l ⊢
            rwa [reserved] at l
        exact steps.laws.trans (takeFrame_laws f (by rw [setLink_intake, waiting]; exact nofun))
  · exact replied _ _

end Take

/-! ## RESTART (R188) -/

section Restart

variable {s : State}

theorem setRestart_steady (tag : Word16) (done lost : Nat) (reserved : s.link.reserved = true) :
    Steady s (setRestart s tag done lost) :=
  setLink_steady fun l => by
    unfold Link.lawful at l ⊢
    rwa [reserved] at l

/-- Step 1 answers no request: a RESTART in hand stays in hand. -/
theorem restartIntakeEnd_handler {tag : Word16} {done lost : Nat} (working : s.link.handler = .restarting tag done lost) :
    (restartIntakeEnd s).link.handler = .restarting tag done lost := by
  have back : s = (s.withHandler (.taken ⟨0, 0, []⟩)).withHandler (.restarting tag done lost) := by
    rw [← working]
    rfl
  have claimed : restartIntakeEnd s = applyClaim [] s := rfl
  rw [claimed, back, applyClaim_withHandler (r := ⟨0, 0, []⟩) rfl rfl]
  rfl

theorem restartSweep_steady (s : State) : Steady s (restartSweep s) :=
  (endSweep_steady .aborted).trans (setSweep_steady fun l => l)

theorem restartIntake_laws (s : State) : LawsKept s (restartIntake s) := by
  have emptied : LawsKept s (s.setIntake { s.intake with
      state := .held .restart, queue := [], accepted := 0, taken := 0, inFlight := none, holdWaiting := none,
      window := [] }) :=
    setIntake_moves (fun _ => ⟨Nat.zero_le _, by simp, nofun, Nat.zero_le _, List.nodup_nil⟩) nofun rfl
  unfold restartIntake
  exact emptied.trans (Steady.of_blocks (by simp [sameBlocks])).laws

theorem restartLink_steady (s : State) : Steady s (restartLink s) := by
  have cleared : Steady s (s.setNotices s.notices.restart) := setNotices_steady fun _ => Notices.lawful_restart _
  have zeroed := cleared.trans (zeroCounters_steady _)
  have uplink : (zeroCounters (s.setNotices s.notices.restart)).link.uplink = s.link.uplink := rfl
  unfold restartLink
  dsimp only
  generalize zeroCounters (s.setNotices s.notices.restart) = t at zeroed uplink
  have emptied : Steady t (t.setLink { t.link with
      rx := restartReceiver s.time.tick s.link.rx, uplink := s.link.uplink.take 1, downlink := [] }) := by
    refine setLink_steady fun l => ⟨?_, Nat.zero_le _⟩
    have room := l.1
    rw [uplink] at room
    exact (Nat.add_le_add_right (List.length_take_le' ..) _).trans room
  exact (zeroed.trans emptied).trans (.of_blocks (by simp [sameBlocks]))

theorem restartStep_laws : LawsKept s (restartStep s) := by
  have kept : ∀ {t : State} {tag : Word16} {done lost : Nat} (done' lost' : Nat),
      s.link.handler = .restarting tag done lost → t.link.handler = s.link.handler → LawsKept s t →
      LawsKept s (setRestart t tag done' lost') := by
    intro t tag done lost done' lost' working same laws
    refine laws.trans (setRestart_steady _ _ _ ?_).laws
    rw [Link.reserved, same, working]
  unfold restartStep
  split
  · rename_i tag lost working
    refine kept 1 lost working ((restartIntakeEnd_handler working).trans working.symm) ?_
    exact applyClaim_laws s []
  · rename_i working
    exact kept _ _ working (by simp) (restartSweep_steady s).laws
  · rename_i working
    exact kept _ _ working (by simp) (Steady.of_blocks (by simp [sameBlocks])).laws
  · rename_i working
    exact kept _ _ working (by simp) (Steady.of_blocks (by simp [sameBlocks])).laws
  · rename_i working
    exact kept _ _ working (by simp) (restartIntake_laws s)
  · rename_i working
    exact kept _ _ working rfl (restartLink_steady s).laws
  · rename_i working
    exact (answer_steady _ _ _ _ (by rw [Link.reserved, working])).laws
  · exact (Steady.refl s).laws

theorem restartSteps_laws (n : Nat) : ∀ s : State, LawsKept s (restartSteps n s) := by
  induction n with
  | zero => exact fun s => (Steady.refl s).laws
  | succ n ih => exact fun s => restartStep_laws.trans (ih _)

theorem beginRestart_steady (s : State) : Steady s (beginRestart s) := by
  unfold beginRestart
  split
  · rename_i r taken
    split
    · exact setRestart_steady _ _ _ (reserved_of_taken taken)
    · exact .refl s
  · exact .refl s

end Restart

/-! ## Every command -/

/-- The blocks at their power-on values are lawful. -/
theorem laws_of_reset {s t : State} (h : sameBlocks State.reset t) : LawsKept s t := by
  have at_reset := (Steady.of_blocks h).laws
  exact ⟨fun _ => at_reset.intake intakeLaw_reset, fun _ => at_reset.link linkLaw_reset,
    fun _ => at_reset.notices noticeLaw_reset, fun _ => at_reset.sweep sweepLaw_reset,
    fun _ => at_reset.time timeLaw_reset, fun _ => at_reset.settings settingLaw_reset⟩

section Envelopes

variable {s t : State} {code item : Byte}

theorem event_laws {f : State → State} (hf : LawsKept s (f s)) (h : event s f = .next t) : LawsKept s t :=
  event_keeps (P := LawsKept s) (Steady.refl s).laws hf h

theorem onRequest_steady {f : Request → State → State} (h : onRequest s code f = .next t)
    (hf : ∀ r, s.link.reserved = true → Steady s (f r s)) : LawsKept s t :=
  onRequest_keeps (P := LawsKept s) (Steady.refl s).laws (fun r taken => (hf r (reserved_of_taken taken)).laws) h

theorem onSetting_steady {f : Request → Nat → State → State} (h : onSetting s item f = .next t)
    (hf : ∀ r v, s.link.reserved = true → Steady s (f r v s)) : LawsKept s t :=
  onSetting_keeps (P := LawsKept s) (Steady.refl s).laws (fun r v taken => (hf r v (reserved_of_taken taken)).laws) h

end Envelopes

theorem exec_laws {c : Instr} {s t : State} (h : exec c s = .next t) : LawsKept s t := by
  cases c with
  | laneFrameEnd n b =>
    rw [exec_laneFrameEnd] at h
    split at h
    · exact event_laws (endLaneFrame_laws ..) h
    · cases h
  | frameTake => exact event_laws takeHead_laws h
  | applyClaim between => exact event_laws (applyClaim_laws s between) h
  | tick failed => exact event_laws (tickAll_laws s failed) h
  | epochEnd =>
    exact event_laws (f := fun s => s.setTime s.time.endEpoch) (setTime_steady TimeBase.lawful_endEpoch).laws h
  | sweepTrigger => exact event_laws (takeTrigger_steady s).laws h
  | minuteChange => exact event_laws (compareMinute_steady s).laws h
  | cutoffEvent q =>
    rw [exec_cutoffEvent] at h
    split at h
    · exact event_laws (takeCutoff_steady ..).laws h
    · cases h
  | drawTimerExpiry p =>
    rw [exec_drawTimerExpiry] at h
    split at h
    · exact event_laws (takeExpiry_steady ..).laws h
    · cases h
  | sweepVisit => exact event_laws (sweepVisit_steady s).laws h
  | linkFrameReceived b c => exact event_laws (receiveFrame_steady s b c).laws h
  | linkIdleTimeout b => exact event_laws (idleTimeout_steady s b).laws h
  | requestTake => exact event_laws (takeRequest_steady s).laws h
  | unknownRequest => exact event_laws (answerUnknown_steady s).laws h
  | uplinkFrameSent => exact event_laws (frameSent_steady s).laws h
  | noticeBuild => exact event_laws (buildNotice_steady s).laws h
  | hold => exact onRequest_steady h holdRequest_steady
  | resume => exact onRequest_steady h resumeRequest_steady
  | step =>
    exact onRequest_keeps (P := LawsKept s) (Steady.refl s).laws
      (fun r taken => stepRequest_laws r (reserved_of_taken taken)) h
  | windowRead => exact onRequest_steady h windowReadRequest_steady
  | binPut between => exact onRequest_steady h fun r reserved => binPutRequest_steady r reserved between
  | binGet => exact onRequest_steady h binGetRequest_steady
  | binDrop => exact onRequest_steady h binDropRequest_steady
  | tableRead => exact onRequest_steady h tableReadRequest_steady
  | profilePut => exact onRequest_steady h profilePutRequest_steady
  | profileGet => exact onRequest_steady h profileGetRequest_steady
  | bind => exact onRequest_steady h bindRequest_steady
  | unbind => exact onRequest_steady h unbindRequest_steady
  | draw => exact onRequest_steady h drawRequest_steady
  | rewind => exact onRequest_steady h rewindRequest_steady
  | release => exact onRequest_steady h releaseRequest_steady
  | portGet => exact onRequest_steady h portGetRequest_steady
  | clockSet => exact onRequest_steady h clockSetRequest_steady
  | timeGet => exact onRequest_steady h timeGetRequest_steady
  | rulePut => exact onRequest_steady h rulePutRequest_steady
  | ruleGet => exact onRequest_steady h ruleGetRequest_steady
  | maskPut => exact onRequest_steady h maskPutRequest_steady
  | conditionRead => exact onRequest_steady h conditionReadRequest_steady
  | roundPut => exact onRequest_steady h roundPutRequest_steady
  | roundGet => exact onRequest_steady h roundGetRequest_steady
  | cutoffNow => exact onRequest_steady h cutoffNowRequest_steady
  | sweep => exact onRequest_steady h sweepRequest_steady
  | sweepAbort => exact onRequest_steady h sweepAbortRequest_steady
  | sweepReport => exact onRequest_steady h sweepReportRequest_steady
  | status items => exact event_laws (statusWork_steady items s).laws h
  | counters => exact onRequest_steady h countersRequest_steady
  | laneEnable => exact onSetting_steady h laneEnableSetting_steady
  | dedupHold => exact onSetting_steady h dedupHoldSetting_steady
  | epochPeriod => exact onSetting_steady h epochPeriodSetting_steady
  | sweepInterval => exact onSetting_steady h sweepIntervalSetting_steady
  | drawIdleLimit => exact onSetting_steady h drawIdleLimitSetting_steady
  | settingGet => exact onRequest_steady h settingGetRequest_steady
  | noticeEnable => exact onRequest_steady h noticeEnableRequest_steady
  | noticeClear => exact onRequest_steady h noticeClearRequest_steady
  | restart n =>
    exact event_laws (f := fun s => restartSteps n (beginRestart s))
      ((beginRestart_steady s).laws.trans (restartSteps_laws n _)) h
  | rstAssert =>
    exact event_laws (f := fun s => ((State.reset.setPending s.pending).setRstLow true).setTxOut (cutTx s))
      (laws_of_reset (by simp [sameBlocks])) h
  | rstRelease high asserted =>
    rw [exec_rstRelease] at h
    split at h
    · exact Host.Outcome.next.inj h ▸ laws_of_reset (by simp [sameBlocks, released])
    · exact Host.Outcome.next.inj h ▸ (Steady.refl s).laws
  | badFrameBeforeCrc cause => exact event_laws (badFrame_steady s cause).laws h
  | settingPutUnknownItem => exact onRequest_steady h unknownItemRequest_steady

/-! ## The laws -/

/-- Settles O59: no step breaks the law of the Intake Unit or of the link queues. -/
theorem intakeAndLinkKept : Obligations.IntakeAndLinkKept :=
  ⟨kept_of_exec (fun _ _ law => law) fun _ _ _ law done => (exec_laws done).intake law,
    kept_of_exec (fun _ _ law => law) fun _ _ _ law done => (exec_laws done).link law⟩

/-- Settles O60: no step breaks the laws of the statuses, the sweep, the clocks or the settings. -/
theorem otherLawsKept : Obligations.OtherLawsKept :=
  ⟨kept_of_exec (fun _ _ law => law) fun _ _ _ law done => (exec_laws done).notices law,
    kept_of_exec (fun _ _ law => law) fun _ _ _ law done => (exec_laws done).sweep law,
    kept_of_exec (fun _ _ law => law) fun _ _ _ law done => (exec_laws done).time law,
    kept_of_exec (fun _ _ law => law) fun _ _ _ law done => (exec_laws done).settings law⟩

end Sys2Proof.Machine
end
